-- ==== Sys2Proof/Word.lean ====
section
/-! DEFINITION. The words and the small index types of the CD8: bytes and 32-bit words where the manual treats a
value as bits, finite numbers where it numbers a fixed set of like things. -/

namespace Sys2Proof

/-- One byte of a message, of a request or of read data. -/
abbrev Byte := BitVec 8

/-- A 32-bit register, field or identity (section 10.6: every window register is one 4-byte word). -/
abbrev Word := BitVec 32

/-- A downstream port, 0 to 7 (00_scope, "System picture"). -/
abbrev Port := Fin 8

/-- A slot of the claim table, 0 to 63 (section 1.2). -/
abbrev SlotNo := Fin 64

/-- A place of the pending access table, 0 to 31 (R66). -/
abbrev EntryNo := Fin 32

/-- A board's own number for one of its claims, 0 to 15 (section 1.2). -/
abbrev Handle := Fin 16

/-- The host's number for a request, 0 to 63: six bits of the header (R47, section 10.1). -/
abbrev HostTag := BitVec 6

/-- A piece tag of a port, 0 to 7 (R72). -/
abbrev PieceTag := Fin 8

end Sys2Proof
end

