-- ==== Sys2Proof/Syntax.lean ====
section
/-! DEFINITION. The commands of the CD8: one constructor of `Instr` for each row of spec/opcode_table.json, with the
operands chapters 8 and 10 give it. Nothing here says what a command does. -/

namespace Sys2Proof

/-- The two address spaces (section 1.1). -/
inductive Space where
  | mem
  | io
  deriving DecidableEq, Repr

/-- The kind of a host access (R47). -/
inductive AccessKind where
  | read
  | write
  deriving DecidableEq, Repr

/-- The posting attribute of a claim (section 1.2). -/
inductive Posting where
  | posted
  | nonposted
  deriving DecidableEq, Repr

/-- The wake policy of a claim (section 1.2). -/
inductive WakePolicy where
  | wake
  | nowake
  deriving DecidableEq, Repr

/-- A host request as the host link delivers it (section 10.1): bytes 0 to 3 of the header, the address field of
bytes 4 to 7, and every byte after byte 7. R179 reads the fields out of the header. -/
structure HostRequest where
  byte0 : Byte
  byte1 : Byte
  byte2 : Byte
  byte3 : Byte
  address : Word
  data : List Byte
  deriving DecidableEq, Repr

/-- The bytes of one 4-byte window word that a write of 1, 2 or 4 bytes addresses (R59), with what is written. -/
inductive WordLane where
  /-- one byte, at offset 0 to 3 of the word -/
  | byte (i : Fin 4) (v : Byte)
  /-- two bytes, at offset 0 or 2 of the word -/
  | half (i : Fin 2) (v : BitVec 16)
  /-- the whole word -/
  | word (v : Word)
  deriving DecidableEq, Repr

/-- The flag words of the window: the global one and one for each port (section 10.6). -/
inductive FlagWord where
  | global
  | port (p : Port)
  deriving DecidableEq, Repr

/-- The window writes that address the issue register (R153): bytes of the register alone, or the 8-byte write that
covers argument word 3 and the issue register (R61, section 10.6). -/
inductive IssueWrite where
  | lane (l : WordLane)
  | withArgument3 (argument3 issue : Word)
  deriving DecidableEq, Repr

/-- The payload of HELLO (section 10.3), reserved bits left out as R182 ignores them. -/
structure HelloMsg where
  identity : Word
  credit : Byte
  dozeCapable : Bool
  revision : Byte
  deriving DecidableEq, Repr

/-- The payload of CLAIM (section 10.3). `any` is bit 0, `posted` bit 1 and `nowake` bit 2 of byte 3. -/
structure ClaimFields where
  handle : Handle
  spaceCode : Byte
  width : Byte
  any : Bool
  posted : Bool
  nowake : Bool
  base : Word
  size : Word
  deriving DecidableEq, Repr

/-- The payload of RESHAPE (section 10.3). -/
structure ReshapeFields where
  handle : Handle
  any : Bool
  base : Word
  size : Word
  deriving DecidableEq, Repr

/-- A claim message as the claim receive list holds it (R25). -/
inductive ClaimMessage where
  | claim (m : ClaimFields)
  | reshape (m : ReshapeFields)
  | release (h : Handle)
  deriving DecidableEq, Repr

/-- The payload of COMPLETE (section 10.3): the data count is the number of data bytes, as R181 requires of a message
of good length. -/
structure CompleteMsg where
  tag : Byte
  result : Byte
  data : List Byte
  deriving DecidableEq, Repr

/-- The commands. A board message carries its header's sequence number `seq`; a window write carries its host tag. -/
inductive Instr where
  -- power and host link
  | powerOnReset (winsel : BitVec 4)
  | hostLinkUp
  | hostLinkReset
  | hostRequest (r : HostRequest)
  | completionSend
  -- window writes
  | windowWrite (tag : HostTag) (offset : BitVec 12) (data : List Byte)
  | flagClear (tag : HostTag) (target : FlagWord) (l : WordLane)
  | maskWrite (tag : HostTag) (l : WordLane)
  | noticeAcknowledge (tag : HostTag) (l : WordLane)
  -- issue writes: the host commands
  | badCommand (tag : HostTag) (w : IssueWrite)
  | hostClaim (tag : HostTag) (w : IssueWrite)
  | hostRetire (tag : HostTag) (w : IssueWrite)
  | revoke (tag : HostTag) (w : IssueWrite)
  | readClaim (tag : HostTag) (w : IssueWrite)
  | find (tag : HostTag) (w : IssueWrite)
  | portEnable (tag : HostTag) (w : IssueWrite)
  | portDisable (tag : HostTag) (w : IssueWrite)
  | portReset (tag : HostTag) (w : IssueWrite)
  | portRetrain (tag : HostTag) (w : IssueWrite)
  | portSleep (tag : HostTag) (w : IssueWrite)
  | portWake (tag : HostTag) (w : IssueWrite)
  | setQuota (tag : HostTag) (w : IssueWrite)
  | setHold (tag : HostTag) (w : IssueWrite)
  | setPool (tag : HostTag) (w : IssueWrite)
  | setTiming (tag : HostTag) (w : IssueWrite)
  -- presence and greeting
  | presenceAppears (p : Port)
  | presenceLost (p : Port)
  | greetEntry (p : Port)
  | hello (p : Port) (seq : Byte) (m : HelloMsg)
  | greetTimerExpiry (p : Port)
  -- link errors and realign
  | badCheckMessage (p : Port)
  | unknownMessage (p : Port) (seq : Byte)
  | alignAck (p : Port) (seq : Byte) (identity : Word)
  | attemptTimerExpiry (p : Port)
  | resetSignallingTimerExpiry (p : Port)
  -- claim messages
  | claim (p : Port) (seq : Byte) (m : ClaimFields)
  | reshape (p : Port) (seq : Byte) (m : ReshapeFields)
  | release (p : Port) (seq : Byte) (h : Handle)
  | takeClaim (p : Port)
  | takeReshape (p : Port)
  | takeRelease (p : Port)
  | owedMessageSend (p : Port)
  -- accesses
  | pieceIssue (p : Port)
  | complete (p : Port) (seq : Byte) (m : CompleteMsg)
  | completionTimerExpiry (n : EntryNo)
  -- holding and power
  | holdTimerExpiry (p : Port)
  | dozeIdleTimerExpiry (p : Port)
  | handshakeAnswerTimerExpiry (p : Port)
  | dozeAck (p : Port) (seq : Byte)
  | dozeNak (p : Port) (seq : Byte)
  | sleepReq (p : Port) (seq : Byte)
  | sleepAck (p : Port) (seq : Byte)
  | sleepNak (p : Port) (seq : Byte)
  | wake (p : Port) (seq : Byte)
  | wakeAck (p : Port) (seq : Byte)
  | wakeExitTimerExpiry (p : Port)
  -- notices
  | notice (p : Port) (seq : Byte) (code : Byte)
  deriving DecidableEq, Repr

end Sys2Proof
end

