-- ==== Sys2Proof/Decode.lean ====
section
/-! DEFINITION. The commands that a word spells by the bits of spec/opcode_table.json. The table gives no row any bits (no row has
a mask, a pattern or a field), so no word spells a command (log 19). What the manual itself encodes (board messages, host requests,
the command record) is decoded in Sys2Proof/Machine/Frames.lean and Sys2Proof/Machine/Operands.lean. -/

namespace Sys2Proof

/-- The command of an opcode-table word: none, since no row has bits. -/
def decodeTableWord (_nbits _w : Nat) : Option Instr :=
  none

end Sys2Proof
end

