-- ==== Sys2Proof/Config.lean ====
section
/-! DEFINITION. What is fixed for one CD8 on one rack. The manual leaves no value of the part undefined, so there is no
free value here; the one entry stands for an input pin whose level the manual does not fix. -/

namespace Sys2Proof

/-- DESIGN CHOICE, unsafe (log 6): the level of the four WINSEL straps in `Machine.State.reset`. R4 gives the window's base for
every level; POWER_ON_RESET takes the level as its operand. -/
def Config.strapWinsel : BitVec 4 := 0

end Sys2Proof
end

