-- ==== Sys2Proof/Machine/State.lean ====
section
/-! DEFINITION. The state of the CD8 as plain data: every record, list, timer, flag, setting and line the manual names
(INVENTORY.md lists each with its rule), the state right after reset, and the reasons a step can stop. -/

namespace Sys2Proof.Machine

/-- No command of the CD8 stops the machine: every refusal of the manual is an answer, a status, a reason or a flag. There is
therefore no fault. -/
inductive Fault where
  deriving DecidableEq, Repr

/-- Why a command has no meaning. -/
inductive Refusal where
  /-- Raised by an arm of `exec` whose command has no meaning yet; safe. No arm raises it. -/
  | notModelled (mnemonic : String)
  deriving DecidableEq, Repr

/-- The host link (R46). -/
inductive HostLinkState where
  | up
  | reset
  deriving DecidableEq, Repr

/-- The fourteen completion statuses (section 3.6). -/
inductive Status where
  | ok | unclaimed | fenced | retired | moved | linkDown | asleep | wakeFail | timeout | retrained | boardError | busy
  | tagBusy | malformed
  deriving DecidableEq, Repr

/-- The refusal reasons of board messages and of host commands (section 10.3). -/
inductive Reason where
  | badShape | outOfPool | handleBusy | noHandle | busy | quota | tableFull | overlap | noRoom | badPort | notHost
  | notBoard | fixed | noClaim | portState | portBusy | belowCount
  deriving DecidableEq, Repr

/-- The eight result statuses of a host command (R156). -/
inductive CommandResult where
  | done | refused | badCommand | badArgument | alreadyRetiring | boardDeclined | linkLost | wakeFailed
  deriving DecidableEq, Repr

/-- The attributes of a claim that governs accesses: unit width, posting and wake policy (section 1.2). -/
structure Attributes where
  width : Nat
  posting : Posting
  wake : WakePolicy
  deriving DecidableEq, Repr

/-- Origin and kind of a claim with the fields they bring (section 1.2): FIXED (the window of slot 0), HOST of kind FENCE,
HOST of kind ROUTE, or BOARD. -/
inductive Owner where
  | fixed
  | fence
  | route (port : Port) (attributes : Attributes)
  | board (port : Port) (handle : Handle) (identity : Word) (attributes : Attributes)
  deriving DecidableEq, Repr

/-- The retire causes (R10). -/
inductive RetireCause where
  | release | revoke | hostRetire
  deriving DecidableEq, Repr

/-- The states of a record that is not FREE (section 1.4), each with the field it brings: the pending shape in RESHAPING, the
retire cause in DRAINING. -/
inductive Phase where
  | live
  | reshaping (pendingBase pendingSize : Nat)
  | draining (cause : RetireCause)
  | orphaned
  deriving DecidableEq, Repr

/-- A claim record that is not FREE (section 1.2). -/
structure Claim where
  owner : Owner
  space : Space
  base : Nat
  size : Nat
  phase : Phase
  inFlight : Nat
  deriving DecidableEq, Repr

/-- The pool of one space (R16). -/
structure Pool where
  first : Nat
  last : Nat
  deriving DecidableEq, Repr

/-- A timer: stopped, or running with the time it was started for (log 10). Times are in µs, the hold timer's in ms. -/
abbrev Timer := Option Nat

/-- The outcome of one piece of an entry (R67). -/
inductive PieceOutcome where
  | notIssued
  | outstanding (tag : PieceTag)
  | ended (status : Status)
  deriving DecidableEq, Repr

/-- An entry of the pending access table (R67). `owes` is the host tag while an answer is owed. `posted` and `setBy` are implied
by R79 and R77 (log 20). A WRITE has no read buffer and a READ no write data: the list is then empty. -/
structure Entry where
  owes : Option HostTag
  posted : Bool
  kind : AccessKind
  space : Space
  address : Nat
  length : Nat
  data : List Byte
  slot : SlotNo
  port : Port
  width : Nat
  pieces : List PieceOutcome
  issued : Nat
  completed : Nat
  status : Status
  setBy : Option Nat
  buffer : List Byte
  timer : Timer
  deriving DecidableEq, Repr

/-- A completion on the host link (R47). -/
structure Completion where
  tag : HostTag
  status : Status
  data : List Byte
  deriving DecidableEq, Repr

/-- A message of the owed list (R36). -/
inductive OwedMessage where
  | grant (handle : Handle) (slot : SlotNo) (space : Space) (base size : Nat)
  | refuse (handle : Handle) (reason : Reason)
  | released (handle : Handle)
  | revoked (handle : Handle)
  | noticeAck
  deriving DecidableEq, Repr

/-- A message the CD8 sends on a board link (section 10.2). -/
inductive OutMessage where
  | welcome (port : Port) (quota resumed : Nat)
  | align (port : Port)
  | dozeReq | sleepReq | sleepAck | sleepNak | wake | wakeAck | noticeNak
  | owed (m : OwedMessage)
  | access (tag : PieceTag) (kind : AccessKind) (space : Space) (address width : Nat) (data : List Byte)
  deriving DecidableEq, Repr

/-- A message sent, with the sequence number its header carries (R96). -/
structure SentMessage where
  seq : Byte
  message : OutMessage
  deriving DecidableEq, Repr

/-- The ten port states (section 5.1). -/
inductive PortState where
  | off | listen | greet | run | realign | doze | sleep | waking | resetting | fault
  deriving DecidableEq, Repr

/-- The handshake of the CD8 that waits for its answer (R117). -/
inductive Handshake where
  | none | dozeReq | sleepReq
  deriving DecidableEq, Repr

/-- What is held for one port: the port controller's state (R91, R117, R136), the attention unit's flags and pending notice
(R170, R175), the claim table's quota and claim count (R19), and the pending access table's issue list and tags (R70, R72). `endedTags`
marks the tags whose pieces link loss, PORT_RESET or PORT_DISABLE ended and whose COMPLETE may still come (R89; log 22). -/
structure PortRecord where
  present : Bool
  state : PortState
  identity : Option Word
  credit : Nat
  dozeCapable : Bool
  greetFailures : Nat
  realignAttempts : Nat
  realignLimit : Nat
  sendSeq : Byte
  recvSeq : Byte
  greetTimer : Timer
  attemptTimer : Timer
  resetTimer : Timer
  receiveList : List ClaimMessage
  owed : List OwedMessage
  noticeAckOwed : Bool
  holdTime : Nat
  holdTimer : Timer
  handshake : Handshake
  dozeIdleTimer : Timer
  answerTimer : Timer
  wakeExitTimer : Timer
  quota : Nat
  claimCount : Nat
  issueList : List EntryNo
  tagsInUse : Vector Bool 8
  endedTags : Vector Bool 8
  flags : BitVec 12
  notice : Option Byte
  sent : List SentMessage
  deriving DecidableEq, Repr

/-- The five words of the command record (R150), and of the command the slot latched (R153). -/
structure CommandRecord where
  code : Word
  arg0 : Word
  arg1 : Word
  arg2 : Word
  arg3 : Word
  deriving DecidableEq, Repr

/-- The five words of the result record (R151). -/
structure ResultRecord where
  status : Word
  word0 : Word
  word1 : Word
  word2 : Word
  word3 : Word
  deriving DecidableEq, Repr

/-- The states of the command slot (R151). -/
inductive SlotState where
  | idle | busy | done
  deriving DecidableEq, Repr

/-- The whole state of the CD8 and the queue of commands that wait. -/
structure State where
  winsel : BitVec 4
  hostLink : HostLinkState
  waiting : List HostRequest
  completions : List Completion
  hostSent : List Completion
  claims : Vector (Option Claim) 64
  memPool : Pool
  ioPool : Pool
  entries : Vector (Option Entry) 32
  ports : Vector PortRecord 8
  command : CommandRecord
  latched : CommandRecord
  slotState : SlotState
  result : ResultRecord
  completionTimeout : Nat
  dozeIdleTime : Nat
  realignLimit : Nat
  globalFlags : BitVec 3
  maskGlobal : BitVec 3
  maskPort : BitVec 12
  attn : Bool
  pending : List Instr
  deriving DecidableEq, Repr

/-- A port after power-on reset (R92, R117, R136, R174, R178, R22, R90), with no partner (log 7). -/
def PortRecord.reset : PortRecord where
  present := false
  state := .listen
  identity := none
  credit := 0
  dozeCapable := false
  greetFailures := 0
  realignAttempts := 0
  realignLimit := 3
  sendSeq := 0
  recvSeq := 0
  greetTimer := none
  attemptTimer := none
  resetTimer := none
  receiveList := []
  owed := []
  noticeAckOwed := false
  holdTime := 500
  holdTimer := none
  handshake := .none
  dozeIdleTimer := none
  answerTimer := none
  wakeExitTimer := none
  quota := 8
  claimCount := 0
  issueList := []
  tagsInUse := Vector.replicate 8 false
  endedTags := Vector.replicate 8 false
  flags := 0
  notice := none
  sent := []

/-- A command record of zeros (R150). -/
def CommandRecord.zero : CommandRecord := ⟨0, 0, 0, 0, 0⟩

/-- A result record of zeros (R151). -/
def ResultRecord.zero : ResultRecord := ⟨0, 0, 0, 0, 0⟩

/-- The base of the management window for a WINSEL value (R4). -/
def windowBase (winsel : BitVec 4) : Nat :=
  0xFE000000 + winsel.toNat * 0x1000

/-- The claim of slot 0: LIVE, FIXED, 4 KiB of MEM at the window's base (R4). -/
def windowClaim (winsel : BitVec 4) : Claim where
  owner := .fixed
  space := .mem
  base := windowBase winsel
  size := 0x1000
  phase := .live
  inFlight := 0

/-- The part after a power-on reset that sampled `winsel` (R22, R46, R48, R90, R92, R150, R151, R174, R184), with no partner on
any link and nothing in the queue. -/
def State.powerOn (winsel : BitVec 4) : State where
  winsel := winsel
  hostLink := .reset
  waiting := []
  completions := []
  hostSent := []
  claims := (Vector.replicate 64 none).set 0 (some (windowClaim winsel))
  memPool := ⟨0x80000000, 0xBFFFFFFF⟩
  ioPool := ⟨0x1000, 0xFFFF⟩
  entries := Vector.replicate 32 none
  ports := Vector.replicate 8 PortRecord.reset
  command := CommandRecord.zero
  latched := CommandRecord.zero
  slotState := .idle
  result := ResultRecord.zero
  completionTimeout := 2000
  dozeIdleTime := 200
  realignLimit := 3
  globalFlags := 0
  maskGlobal := 0
  maskPort := 0
  attn := false
  pending := []

/-- The machine right after reset: power-on reset with the straps of `Config` (log 6). -/
def State.reset : State :=
  State.powerOn Config.strapWinsel

end Sys2Proof.Machine
end

