-- ==== Sys2Proof/Machine/Access.lean ====
section
/-! DEFINITION. Reading and writing the parts of the state that are numbered: ports, slots of the claim table, places of the
pending access table. -/

namespace Sys2Proof.Machine

/-- Ports, slots, places and handles in ascending order. -/
def allPorts : List Port := List.finRange 8
def allSlots : List SlotNo := List.finRange 64
def allEntries : List EntryNo := List.finRange 32
def allHandles : List Handle := List.finRange 16
def allTags : List PieceTag := List.finRange 8

/-- The record of port `p`. -/
def State.port (s : State) (p : Port) : PortRecord :=
  s.ports[p]

def State.setPort (s : State) (p : Port) (x : PortRecord) : State :=
  { s with ports := s.ports.set p.val x p.isLt }

def State.modifyPort (s : State) (p : Port) (f : PortRecord → PortRecord) : State :=
  s.setPort p (f (s.port p))

/-- The claim record of slot `n`; `none` is FREE (section 1.2). -/
def State.claim (s : State) (n : SlotNo) : Option Claim :=
  s.claims[n]

def State.setClaim (s : State) (n : SlotNo) (c : Option Claim) : State :=
  { s with claims := s.claims.set n.val c n.isLt }

/-- The entry in place `n`; `none` is a free place (R66). -/
def State.entry (s : State) (n : EntryNo) : Option Entry :=
  s.entries[n]

def State.setEntry (s : State) (n : EntryNo) (e : Option Entry) : State :=
  { s with entries := s.entries.set n.val e n.isLt }

/-- The pool of a space (R16). -/
def State.pool (s : State) : Space → Pool
  | .mem => s.memPool
  | .io => s.ioPool

def State.setPool (s : State) (sp : Space) (q : Pool) : State :=
  match sp with
  | .mem => { s with memPool := q }
  | .io => { s with ioPool := q }

end Sys2Proof.Machine
end

