-- ==== Sys2Proof/Machine/Flags.lean ====
section
/-! DEFINITION. The attention unit's flags, mask and ATTN (chapter 9): every flag a rule raises is raised here, every clear and
every mask write passes through here, and ATTN follows each of them (R173). -/

namespace Sys2Proof.Machine

/-- The global flags (R170). -/
inductive GlobalFlag where
  | cmdDone | cmdOverrun | hostLinkReset
  deriving DecidableEq, Repr

/-- The twelve per-port flags (R170). -/
inductive PortFlag where
  | linkUp | linkLost | fault | claimsOrphaned | reattached | orphansDropped | claimChange | timeout | postedLost | stray
  | protocol | notice
  deriving DecidableEq, Repr

/-- The flag's bit of the global flag word (section 10.6). -/
def GlobalFlag.mark : GlobalFlag → BitVec 3
  | .cmdDone => 0x1
  | .cmdOverrun => 0x2
  | .hostLinkReset => 0x4

/-- The flag's bit of a port flag word (section 10.6). -/
def PortFlag.mark : PortFlag → BitVec 12
  | .linkUp => 0x001
  | .linkLost => 0x002
  | .fault => 0x004
  | .claimsOrphaned => 0x008
  | .reattached => 0x010
  | .orphansDropped => 0x020
  | .claimChange => 0x040
  | .timeout => 0x080
  | .postedLost => 0x100
  | .stray => 0x200
  | .protocol => 0x400
  | .notice => 0x800

/-- A global flag is set. -/
def State.globalFlag (s : State) (f : GlobalFlag) : Bool :=
  s.globalFlags &&& f.mark != 0

/-- A flag of a port is set. -/
def State.portFlag (s : State) (p : Port) (f : PortFlag) : Bool :=
  (s.port p).flags &&& f.mark != 0

/-- At least one flag is set whose kind is unmasked (R173). -/
def State.attnCondition (s : State) : Bool :=
  s.globalFlags &&& s.maskGlobal != 0 || allPorts.any fun p => (s.port p).flags &&& s.maskPort != 0

/-- ATTN follows the condition of R173. -/
def State.driveAttn (s : State) : State :=
  { s with attn := s.attnCondition }

/-- A block raises a global flag (R170). -/
def State.raiseGlobal (s : State) (f : GlobalFlag) : State :=
  State.driveAttn { s with globalFlags := s.globalFlags ||| f.mark }

/-- A block raises a flag of a port (R170). -/
def State.raisePort (s : State) (p : Port) (f : PortFlag) : State :=
  (s.modifyPort p fun x => { x with flags := x.flags ||| f.mark }).driveAttn

/-- The host clears the global flags written with 1 (R171). -/
def State.clearGlobal (s : State) (ones : Word) : State :=
  State.driveAttn { s with globalFlags := s.globalFlags &&& ~~~(ones.setWidth 3) }

/-- The host clears the flags of a port written with 1 (R171). -/
def State.clearPort (s : State) (p : Port) (ones : Word) : State :=
  (s.modifyPort p fun x => { x with flags := x.flags &&& ~~~(ones.setWidth 12) }).driveAttn

/-- The mask word: global marks in bits 0 to 2, per-port marks in bits 8 to 19 (section 10.6). -/
def State.maskWord (s : State) : Word :=
  s.maskGlobal.setWidth 32 ||| s.maskPort.setWidth 32 <<< 8

/-- The host writes the mask word `v` (R172): bits that stand for no kind are not stored. -/
def State.writeMask (s : State) (v : Word) : State :=
  State.driveAttn { s with maskGlobal := v.setWidth 3, maskPort := (v >>> 8).setWidth 12 }

end Sys2Proof.Machine
end

