-- ==== Sys2Proof/Machine/Operands.lean ====
section
/-! DEFINITION. Reading operands: byte order, codes and fields of chapter 10, the fixed limits of the two spaces (section 1.1),
the fields of a host request (R179) and of HOST_CLAIM's arguments (section 10.4). -/

namespace Sys2Proof.Machine

/-! ### Bytes and words, least significant byte first (chapter 10) -/

/-- Byte `i` of a word, byte 0 the least significant. -/
def wordByte (w : Word) (i : Nat) : Byte :=
  (w >>> (8 * i)).setWidth 8

/-- The word whose bytes from byte 0 upward are the list's; missing bytes are zero. -/
def wordOfBytes : List Byte → Word
  | [] => 0
  | b :: rest => b.setWidth 32 ||| wordOfBytes rest <<< 8

/-- The four bytes of a word. -/
def wordBytes (w : Word) : List Byte :=
  [wordByte w 0, wordByte w 1, wordByte w 2, wordByte w 3]

/-- A number as a 32-bit word, and as a byte. -/
def wordOf (n : Nat) : Word := BitVec.ofNat 32 n
def byteOf (n : Nat) : Byte := BitVec.ofNat 8 n

/-! ### Spaces (section 1.1) -/

/-- Space codes: 1 MEM, 2 IO (section 10.3). -/
def spaceOfCode (code : Nat) : Option Space :=
  match code with
  | 1 => some .mem
  | 2 => some .io
  | _ => none

/-! ### Host requests (R179) -/

/-- A host request with the fields of R47 read out of it; `kind` and `space` are `none` for a code that names neither. -/
structure Request where
  tag : HostTag
  kind : Option AccessKind
  space : Option Space
  length : Nat
  address : Nat
  data : List Byte
  deriving DecidableEq, Repr

/-- Kind codes: 1 READ, 2 WRITE (section 10.1). -/
def kindOfCode (code : Nat) : Option AccessKind :=
  match code with
  | 1 => some .read
  | 2 => some .write
  | _ => none

/-- The request for a WRITE of `data` in MEM at `address` under a tag (section 10.1). -/
def memWrite (tag : HostTag) (address : Nat) (data : List Byte) : HostRequest where
  byte0 := tag.setWidth 8
  byte1 := 0x06
  byte2 := byteOf data.length
  byte3 := 0
  address := wordOf address
  data := data

/-! ### Codes of results, reasons, statuses and states (chapter 10) -/

def Status.code : Status → Nat
  | .ok => 0x0
  | .unclaimed => 0x1
  | .fenced => 0x2
  | .retired => 0x3
  | .moved => 0x4
  | .linkDown => 0x5
  | .asleep => 0x6
  | .wakeFail => 0x7
  | .timeout => 0x8
  | .retrained => 0x9
  | .boardError => 0xA
  | .busy => 0xB
  | .tagBusy => 0xC
  | .malformed => 0xD

def Reason.code : Reason → Nat
  | .badShape => 1
  | .outOfPool => 2
  | .handleBusy => 3
  | .noHandle => 4
  | .busy => 5
  | .quota => 6
  | .tableFull => 7
  | .overlap => 8
  | .noRoom => 9
  | .badPort => 10
  | .notHost => 11
  | .notBoard => 12
  | .fixed => 13
  | .noClaim => 14
  | .portState => 15
  | .portBusy => 16
  | .belowCount => 17

def CommandResult.code : CommandResult → Nat
  | .done => 1
  | .refused => 2
  | .badCommand => 3
  | .badArgument => 4
  | .alreadyRetiring => 5
  | .boardDeclined => 6
  | .linkLost => 7
  | .wakeFailed => 8

def SlotState.code : SlotState → Nat
  | .idle => 0
  | .busy => 1
  | .done => 2

def PortState.code : PortState → Nat
  | .off => 0
  | .listen => 1
  | .greet => 2
  | .run => 3
  | .realign => 4
  | .doze => 5
  | .sleep => 6
  | .waking => 7
  | .resetting => 8
  | .fault => 9

def Phase.code : Phase → Nat
  | .live => 1
  | .reshaping _ _ => 2
  | .draining _ => 3
  | .orphaned => 4

def RetireCause.code : RetireCause → Nat
  | .release => 1
  | .revoke => 2
  | .hostRetire => 3

/-! ### Host commands (section 10.4) -/

/-- The fifteen host commands. -/
inductive HostCommand where
  | hostClaim | hostRetire | revoke | readClaim | find | portEnable | portDisable | portReset | portRetrain | portSleep
  | portWake | setQuota | setHold | setPool | setTiming
  deriving DecidableEq, Repr

def HostCommand.code : HostCommand → Nat
  | .hostClaim => 1
  | .hostRetire => 2
  | .revoke => 3
  | .readClaim => 4
  | .find => 5
  | .portEnable => 6
  | .portDisable => 7
  | .portReset => 8
  | .portRetrain => 9
  | .portSleep => 10
  | .portWake => 11
  | .setQuota => 12
  | .setHold => 13
  | .setPool => 14
  | .setTiming => 15

/-- The command a code names (R154). -/
def HostCommand.ofCode (code : Word) : Option HostCommand :=
  match code.toNat with
  | 1 => some .hostClaim
  | 2 => some .hostRetire
  | 3 => some .revoke
  | 4 => some .readClaim
  | 5 => some .find
  | 6 => some .portEnable
  | 7 => some .portDisable
  | 8 => some .portReset
  | 9 => some .portRetrain
  | 10 => some .portSleep
  | 11 => some .portWake
  | 12 => some .setQuota
  | 13 => some .setHold
  | 14 => some .setPool
  | 15 => some .setTiming
  | _ => none

/-- HOST_CLAIM's arguments (section 10.4, words 0 to 3). -/
structure HostClaimArgs where
  spaceCode : Nat
  kindCode : Nat
  port : Nat
  width : Nat
  base : Nat
  size : Nat
  any : Bool
  postingCode : Nat
  wakeCode : Nat
  deriving DecidableEq, Repr

def CommandRecord.hostClaimArgs (r : CommandRecord) : HostClaimArgs where
  spaceCode := (wordByte r.arg0 0).toNat
  kindCode := (wordByte r.arg0 1).toNat
  port := (wordByte r.arg0 2).toNat
  width := (wordByte r.arg0 3).toNat
  base := r.arg1.toNat
  size := r.arg2.toNat
  any := r.arg3.getLsbD 0
  postingCode := r.arg3.toNat / 0x100 % 4
  wakeCode := r.arg3.toNat / 0x10000 % 4

/-- HOST_CLAIM's posting codes: 1 NONPOSTED, 2 POSTED; its wake codes: 1 WAKE, 2 NOWAKE (section 10.4). -/
def postingOfCode (code : Nat) : Option Posting :=
  match code with
  | 1 => some .nonposted
  | 2 => some .posted
  | _ => none

def wakeOfCode (code : Nat) : Option WakePolicy :=
  match code with
  | 1 => some .wake
  | 2 => some .nowake
  | _ => none

/-- The handle of an owed message, if it is for one (R36). -/
def OwedMessage.handle : OwedMessage → Option Handle
  | .grant h _ _ _ _ => some h
  | .refuse h _ => some h
  | .released h => some h
  | .revoked h => some h
  | .noticeAck => none

end Sys2Proof.Machine

namespace Sys2Proof

open Sys2Proof.Machine

/-! ### The spaces' limits (section 1.1, section 10.3) -/

def Space.code : Space → Nat
  | .mem => 1
  | .io => 2

/-- Granule, largest claim size, last address, unit widths, and host access lengths (section 1.1, R49). -/
def Space.granule : Space → Nat
  | .mem => 4096
  | .io => 16

def Space.maxSize : Space → Nat
  | .mem => 256 * 1024 * 1024
  | .io => 4096

def Space.lastAddress : Space → Nat
  | .mem => 0xFFFFFFFF
  | .io => 0xFFFF

def Space.widths : Space → List Nat
  | .mem => [1, 2, 4, 8]
  | .io => [1, 2, 4]

def Space.lengths : Space → List Nat
  | .mem => [1, 2, 4, 8, 16, 32, 64]
  | .io => [1, 2, 4]

/-! ### Codes, lanes and message fields of the commands' operands -/

def AccessKind.code : AccessKind → Nat
  | .read => 1
  | .write => 2

/-- R179: the reserved bits of bytes 0 and 1 and the whole of byte 3 are ignored. -/
def HostRequest.decode (r : HostRequest) : Request where
  tag := r.byte0.setWidth 6
  kind := kindOfCode (r.byte1.toNat % 4)
  space := spaceOfCode (r.byte1.toNat / 4 % 4)
  length := r.byte2.toNat
  address := r.address.toNat
  data := r.data

/-- The offset in its word of the first byte a lane addresses. -/
def WordLane.offset : WordLane → Nat
  | .byte i _ => i.val
  | .half i _ => 2 * i.val
  | .word _ => 0

/-- The bytes a lane writes, in ascending order. -/
def WordLane.bytes : WordLane → List Byte
  | .byte _ v => [v]
  | .half _ v => [v.setWidth 8, (v >>> 8).setWidth 8]
  | .word v => wordBytes v

/-- The offset and the bytes of an issue write: the issue register stands at 0x054, argument word 3 at 0x050 (section 10.6). -/
def IssueWrite.offset : IssueWrite → Nat
  | .lane l => 0x054 + l.offset
  | .withArgument3 _ _ => 0x050

def IssueWrite.bytes : IssueWrite → List Byte
  | .lane l => l.bytes
  | .withArgument3 a v => wordBytes a ++ wordBytes v

/-- The offset of a flag word (section 10.6). -/
def FlagWord.offset : FlagWord → Nat
  | .global => 0x100
  | .port p => 0x110 + 4 * p.val

/-- The attributes of a board CLAIM (section 10.3). -/
def ClaimFields.attributes (m : ClaimFields) : Attributes where
  width := m.width.toNat
  posting := if m.posted then .posted else .nonposted
  wake := if m.nowake then .nowake else .wake

/-- The handle of a claim message (R26). -/
def ClaimMessage.handle : ClaimMessage → Handle
  | .claim m => m.handle
  | .reshape m => m.handle
  | .release h => h

/-- HELLO is good when its revision is 1 and its credit from 1 to 8 (R99). -/
def HelloMsg.good (m : HelloMsg) : Bool :=
  m.revision == 1 && decide (1 ≤ m.credit.toNat) && decide (m.credit.toNat ≤ 8)

end Sys2Proof
end

