-- ==== Sys2Proof/Machine/Ops.lean ====
section
/-! DEFINITION. The shared operations of the port controllers and the command unit: sending a message, the doze idle timer,
waking, owing a message, handing over a completion, finishing a command. -/

namespace Sys2Proof.Machine

/-- The linked states (section 5.1). -/
def PortState.linked : PortState → Bool
  | .run | .realign | .doze | .sleep | .waking => true
  | .off | .listen | .greet | .resetting | .fault => false

/-! ### The doze idle timer (R119) -/

/-- The four conditions under which a port's doze idle timer runs (R119). -/
def State.idleMayRun (s : State) (p : Port) : Bool :=
  (s.port p).state == .run && (s.port p).dozeCapable && s.dozeIdleTime != 0 && (s.port p).handshake == .none

/-- The timer starts or restarts where the four conditions hold, and is stopped where they do not (R118, R119). -/
def State.restartIdle (s : State) (p : Port) : State :=
  s.modifyPort p fun x => { x with dozeIdleTimer := if s.idleMayRun p then some s.dozeIdleTime else none }

/-! ### Sending (R96, R98) -/

/-- The CD8 sends a message other than ALIGN on a port: it carries the send sequence, which advances (R96), and it restarts
the doze idle timer (R119). -/
def State.transmit (s : State) (p : Port) (m : OutMessage) : State :=
  (s.modifyPort p fun x =>
    { x with sent := x.sent ++ [⟨x.sendSeq, m⟩], sendSeq := x.sendSeq + 1 }).restartIdle p

/-- The CD8 sends ALIGN: its own port number, sequence 0, and the send sequence does not advance (R96, R104). -/
def State.transmitAlign (s : State) (p : Port) : State :=
  s.modifyPort p fun x => { x with sent := x.sent ++ [⟨0, .align p⟩] }

/-! ### Waking and owing (R128, R111, R36) -/

/-- Wake exit limits in µs (R117). -/
def dozeExitLimit : Nat := 100
def sleepExitLimit : Nat := 10000

/-- A local wake with the given exit limit (R128). -/
def State.startWake (s : State) (p : Port) (limit : Nat) : State :=
  (s.modifyPort p fun x =>
    { x with state := .waking, wakeExitTimer := some limit, dozeIdleTimer := none }).transmit p .wake

/-- A wake cause (R128): it wakes a port in DOZE or SLEEP, and starts no wake in any other state. -/
def State.wakeCause (s : State) (p : Port) : State :=
  match (s.port p).state with
  | .doze => s.startWake p dozeExitLimit
  | .sleep => s.startWake p sleepExitLimit
  | .off | .listen | .greet | .run | .realign | .waking | .resetting | .fault => s

/-- A message becomes owed on a port: it joins the owed list of a linked port, where it is a wake cause (R36, R38, R128),
and is discarded on any other (R111). -/
def State.owe (s : State) (p : Port) (m : OwedMessage) : State :=
  if (s.port p).state.linked then
    (s.modifyPort p fun x => { x with owed := x.owed ++ [m] }).wakeCause p
  else s

/-! ### The host link's completion list (R48) -/

/-- A completion is handed over: it joins the end of the completion list. -/
def State.handOver (s : State) (c : Completion) : State :=
  { s with completions := s.completions ++ [c] }

/-! ### The command unit (R155) -/

/-- A command finishes: the result record is written whole, the slot becomes DONE, CMD_DONE is raised (R155). -/
def State.finishCommand (s : State) (r : CommandResult) (word0 : Nat := 0) (word1 : Nat := 0) (word2 : Nat := 0)
    (word3 : Nat := 0) : State :=
  State.raiseGlobal
    { s with
      result := ⟨wordOf r.code, wordOf word0, wordOf word1, wordOf word2, wordOf word3⟩
      slotState := .done } .cmdDone

/-- A check of a command failed: REFUSED with the reason in result word 0 (R156). -/
def State.refuseCommand (s : State) (r : Reason) : State :=
  s.finishCommand .refused r.code

/-- The command `c` with argument word 0 equal to `arg0` is running (R153). -/
def State.running (s : State) (c : HostCommand) (arg0 : Nat) : Bool :=
  s.slotState == .busy && s.latched.code.toNat == c.code && s.latched.arg0.toNat == arg0

/-- A block reports the end of the operation of a running command (R155): nothing happens where that command is not running. -/
def State.reportEnd (s : State) (c : HostCommand) (arg0 : Nat) (r : CommandResult) (word0 : Nat := 0) : State :=
  if s.running c arg0 then s.finishCommand r word0 else s

end Sys2Proof.Machine
end

