-- ==== Sys2Proof/Machine/Claims.lean ====
section
/-! DEFINITION. The claim table's tests and searches (chapter 1): shape, pool, overlap, placement, free slot, lookup; and
admission. -/

namespace Sys2Proof.Machine

/-! ### The claim record -/

/-- The claim is a BOARD claim of port `p`. -/
def Claim.isBoardOf (c : Claim) (p : Port) : Bool :=
  match c.owner with
  | .board q _ _ _ => q == p
  | .fixed | .fence | .route _ _ => false

/-- The claim is a BOARD claim. -/
def Claim.isBoard (c : Claim) : Bool :=
  match c.owner with
  | .board _ _ _ _ => true
  | .fixed | .fence | .route _ _ => false

/-- The claim is a BOARD claim of port `p` carrying handle `h` (R3). -/
def Claim.carries (c : Claim) (p : Port) (h : Handle) : Bool :=
  match c.owner with
  | .board q k _ _ => q == p && k == h
  | .fixed | .fence | .route _ _ => false

def Claim.isOrphanOf (c : Claim) (p : Port) : Bool :=
  c.isBoardOf p && c.phase == .orphaned

/-! ### Extents and the overlap test (R14) -/

/-- The occupied extents of a claim, each a base and a size: its current one and, while RESHAPING, its pending one (R14). -/
def Claim.extents (c : Claim) : List (Nat × Nat) :=
  match c.phase with
  | .reshaping b z => [(c.base, c.size), (b, z)]
  | .live | .draining _ | .orphaned => [(c.base, c.size)]

/-- Two extents share an address. -/
def extentsMeet (a b : Nat × Nat) : Bool :=
  decide (a.1 < b.1 + b.2) && decide (b.1 < a.1 + a.2)

/-- The extent meets an occupied extent of the claim, in the same space (R14). -/
def Claim.meets (c : Claim) (sp : Space) (x : Nat × Nat) : Bool :=
  c.space == sp && c.extents.any fun y => extentsMeet x y

/-- The overlap test: the extent meets a claim that is not FREE, the claim of slot `leaveOut` left out (R14). -/
def State.overlaps (s : State) (sp : Space) (base size : Nat) (leaveOut : Option SlotNo) : Bool :=
  allSlots.any fun n =>
    match s.claim n with
    | some c => some n != leaveOut && c.meets sp (base, size)
    | none => false

/-! ### Shape and pool (R1, R17) -/

/-- The shape test of R1: `base` is `none` for ANY, `width` is `none` where the request records none. -/
def shapeGood (sp : Space) (base : Option Nat) (size : Nat) (width : Option Nat) : Bool :=
  size != 0 && size % Space.granule sp == 0 && decide (size ≤ Space.maxSize sp) &&
    (match base with
      | some b => b % Space.granule sp == 0 && decide (b + size - 1 ≤ Space.lastAddress sp)
      | none => true) &&
    (match width with
      | some w => (Space.widths sp).contains w
      | none => true)

/-- The pool test of R17 for an explicit base; it does not apply to ANY. -/
def Pool.holds (q : Pool) (base : Option Nat) (size : Nat) : Bool :=
  match base with
  | some b => decide (q.first ≤ b) && decide (b + size - 1 ≤ q.last)
  | none => true

/-- The addresses a pool of a space may have (R16). -/
def poolGood (sp : Space) (q : Pool) : Bool :=
  q.first % Space.granule sp == 0 && (q.last + 1) % Space.granule sp == 0 && decide (q.first ≤ q.last) &&
    decide (q.last ≤ Space.lastAddress sp)

/-! ### Placement (R18) -/

/-- The first of `count` candidates from `candidate` upward, one granule apart, that fits. -/
def firstFit (fits : Nat → Bool) (granule : Nat) : (count : Nat) → (candidate : Nat) → Option Nat
  | 0, _ => none
  | count + 1, candidate =>
    if fits candidate then some candidate else firstFit fits granule count (candidate + granule)

/-- How many candidates from the pool's first address upward end at or below its last (R18). -/
def Pool.candidates (q : Pool) (granule size : Nat) : Nat :=
  if q.first + size ≤ q.last + 1 then (q.last + 1 - size - q.first) / granule + 1 else 0

/-- ANY placement: the lowest candidate whose extent lies in the pool and overlaps nothing (R18). -/
def State.place (s : State) (sp : Space) (size : Nat) (leaveOut : Option SlotNo) : Option Nat :=
  firstFit (fun b => !s.overlaps sp b size leaveOut) (Space.granule sp)
    ((s.pool sp).candidates (Space.granule sp) size) (s.pool sp).first

/-- The room check: an explicit base passes the overlap test, ANY finds a base (R14, R18, R28, R158). -/
def State.room (s : State) (sp : Space) (base : Option Nat) (size : Nat) (leaveOut : Option SlotNo) : Except Reason Nat :=
  match base with
  | some b => if s.overlaps sp b size leaveOut then .error .overlap else .ok b
  | none =>
    match s.place sp size leaveOut with
    | some b => .ok b
    | none => .error .noRoom

/-! ### Searches -/

/-- The lowest-numbered FREE slot from 1 to 63 (R6). -/
def State.freeSlot (s : State) : Option SlotNo :=
  allSlots.find? fun n => n != 0 && (s.claim n).isNone

/-- The slot of the port's non-FREE BOARD claim that carries the handle (R3). -/
def State.slotOfHandle (s : State) (p : Port) (h : Handle) : Option SlotNo :=
  allSlots.find? fun n =>
    match s.claim n with
    | some c => c.carries p h
    | none => false

/-- The port's orphans in ascending slot order (R140). -/
def State.orphans (s : State) (p : Port) : List SlotNo :=
  allSlots.filter fun n =>
    match s.claim n with
    | some c => c.isOrphanOf p
    | none => false

/-- Lookup: the slot of the claim whose occupied extent contains the address (R21). -/
def State.lookup (s : State) (sp : Space) (address : Nat) : Option SlotNo :=
  allSlots.find? fun n =>
    match s.claim n with
    | some c => c.meets sp (address, 1)
    | none => false

/-! ### Admission (R7) -/

/-- The claim of a FREE record that is filled (R2): LIVE, nothing in flight. -/
def newClaim (o : Owner) (sp : Space) (base size : Nat) : Claim where
  owner := o
  space := sp
  base := base
  size := size
  phase := .live
  inFlight := 0

/-- Admission of a board claim: the record, the port's claim count, the GRANT, CLAIM_CHANGE (R7, R30). -/
def State.admitBoard (s : State) (n : SlotNo) (p : Port) (h : Handle) (identity : Word) (a : Attributes) (sp : Space)
    (base size : Nat) : State :=
  let s1 := s.setClaim n (some (newClaim (.board p h identity a) sp base size))
  let s2 := s1.modifyPort p fun x => { x with claimCount := x.claimCount + 1 }
  (s2.owe p (.grant h n sp base size)).raisePort p .claimChange

end Sys2Proof.Machine
end

