-- ==== Sys2Proof/Machine/Entries.lean ====
section
/-! DEFINITION. The shared operations that join the pending access table and the claim table: ending pieces, finishing and
freeing an entry, the decrement it reports, reshape commit, drain completion, purge, drain start, reshape acceptance
(chapters 1 and 4). -/

namespace Sys2Proof.Machine

/-! ### Entries (R67, R68) -/

/-- The entry's state, which follows from the counts of its pieces (R68). -/
inductive EntryState where
  | queued | issuing | awaiting
  deriving DecidableEq, Repr

def Entry.state (e : Entry) : EntryState :=
  if e.issued = 0 then .queued else if e.issued < e.pieces.length then .issuing else .awaiting

/-- The width of each piece (R58, R67). -/
def pieceWidth (length width : Nat) : Nat :=
  if width < length then width else length

/-- The number of pieces (R58). -/
def pieceCount (length width : Nat) : Nat :=
  if width < length then length / width else 1

def Entry.pieceWidth (e : Entry) : Nat :=
  Machine.pieceWidth e.length e.width

/-- The piece's outcome holds the tag. -/
def PieceOutcome.holds (o : PieceOutcome) (tag : Nat) : Bool :=
  match o with
  | .outstanding t => t.val == tag
  | .notIssued | .ended _ => false

def PieceOutcome.isOutstanding : PieceOutcome → Bool
  | .outstanding _ => true
  | .notIssued | .ended _ => false

def PieceOutcome.isEnded : PieceOutcome → Bool
  | .ended _ => true
  | .notIssued | .outstanding _ => false

/-- The status so far after piece `k` ends with `st` (R77): the status of the lowest-numbered piece ended other than OK. -/
def Entry.note (e : Entry) (k : Nat) (st : Status) : Entry :=
  if st = .ok then e
  else
    match e.setBy with
    | none => { e with status := st, setBy := some k }
    | some j => if k < j then { e with status := st, setBy := some k } else e

/-- Piece `k` ends with `st` (R75, R77). -/
def Entry.endPiece (e : Entry) (k : Nat) (st : Status) : Entry :=
  Entry.note { e with pieces := e.pieces.set k (.ended st) } k st

/-- Piece `k` ends with `st` unless it has ended already (R77). -/
def Entry.endIfOpen (st : Status) (e : Entry) (k : Nat) : Entry :=
  match e.pieces[k]? with
  | some (.ended _) => e
  | some .notIssued => e.endPiece k st
  | some (.outstanding _) => e.endPiece k st
  | none => e

/-- An event gives its status to every piece that has not yet ended (R77). -/
def Entry.endAll (e : Entry) (st : Status) : Entry :=
  (List.range e.pieces.length).foldl (Entry.endIfOpen st) e

/-- The read data of the entry's completion (R78): a WRITE carries none. -/
def Entry.readData (e : Entry) : List Byte :=
  match e.kind with
  | .read => e.buffer
  | .write => []

/-- The number of places taken (R55, R66). -/
def State.entryCount (s : State) : Nat :=
  allEntries.countP fun n => (s.entry n).isSome

/-- The lowest-numbered free place (R66). -/
def State.freePlace (s : State) : Option EntryNo :=
  allEntries.find? fun n => (s.entry n).isNone

/-- The port has a pending entry, whatever its state (R120, R124). -/
def State.hasEntry (s : State) (p : Port) : Bool :=
  allEntries.any fun n =>
    match s.entry n with
    | some e => e.port == p
    | none => false

/-- An entry that owes an answer holds the tag (R50). -/
def State.tagHeld (s : State) (tag : HostTag) : Bool :=
  allEntries.any fun n =>
    match s.entry n with
    | some e => e.owes == some tag
    | none => false

/-! ### Commit and drain completion (R9, R11) -/

/-- A BOARD claim becomes FREE: the record, the port's claim count, CLAIM_CHANGE (R11, R12). -/
def State.countOut (s : State) (p : Port) : State :=
  (s.modifyPort p fun x => { x with claimCount := x.claimCount - 1 }).raisePort p .claimChange

/-- A reshape commits (R9): the pending shape becomes the extent, the claim LIVE, the GRANT owed, CLAIM_CHANGE raised. -/
def State.commitReshape (s : State) (n : SlotNo) (c : Claim) (base size : Nat) : State :=
  let s1 := s.setClaim n (some { c with base := base, size := size, phase := .live })
  match c.owner with
  | .board p h _ _ => (s1.owe p (.grant h n c.space base size)).raisePort p .claimChange
  | .fixed | .fence | .route _ _ => s1

/-- A drain completes (R11): the record becomes FREE, and the retire cause says who is told. -/
def State.completeDrain (s : State) (n : SlotNo) (c : Claim) (cause : RetireCause) : State :=
  let s1 := s.setClaim n none
  match c.owner with
  | .board p h _ _ =>
    match cause with
    | .release => (s1.owe p (.released h)).countOut p
    | .revoke => ((s1.owe p (.revoked h)).reportEnd .revoke n.val .done n.val).countOut p
    | .hostRetire => (s1.reportEnd .hostRetire n.val .done n.val).countOut p
  | .fixed | .fence | .route _ _ =>
    match cause with
    | .release => s1
    | .revoke => s1.reportEnd .revoke n.val .done n.val
    | .hostRetire => s1.reportEnd .hostRetire n.val .done n.val

/-- A claim with nothing in flight commits its reshape or completes its drain (R9, R11); any other is left as it is. -/
def State.settle (s : State) (n : SlotNo) : State :=
  match s.claim n with
  | none => s
  | some c =>
    if c.inFlight = 0 then
      match c.phase with
      | .reshaping b z => s.commitReshape n c b z
      | .draining cause => s.completeDrain n c cause
      | .live | .orphaned => s
    else s

/-- The freeing of an entry lowers the in-flight count of its slot, and a count that reaches 0 settles the claim (R5). -/
def State.decrement (s : State) (n : SlotNo) : State :=
  match s.claim n with
  | none => s
  | some c => (s.setClaim n (some { c with inFlight := c.inFlight - 1 })).settle n

/-! ### Finishing (R79) -/

/-- Every tag that the pieces hold is freed (R72, R79). -/
def releaseTags (tags : Vector Bool 8) (pieces : List PieceOutcome) : Vector Bool 8 :=
  pieces.foldl (fun t o =>
    match o with
    | .outstanding k => t.set k.val false k.isLt
    | .notIssued | .ended _ => t) tags

/-- The entry leaves its place and its port's issue list, and the freeing is reported to the claim table (R73, R79). -/
def State.freeEntry (s : State) (n : EntryNo) (e : Entry) : State :=
  ((s.modifyPort e.port fun x => { x with issueList := x.issueList.filter (· != n) }).setEntry n none).decrement e.slot

/-- An entry whose pieces have all ended finishes (R79): its completion is handed over if an answer is owed, POSTED_LOST is
raised for a posted write that did not end OK (R80), and the entry is freed. -/
def State.finishEntry (s : State) (n : EntryNo) (e : Entry) : State :=
  let s1 :=
    match e.owes with
    | some tag => s.handOver ⟨tag, e.status, e.readData⟩
    | none => if e.posted && decide (e.status ≠ Status.ok) then s.raisePort e.port .postedLost else s
  s1.freeEntry n e

/-- An event ends an entry with a status (R77, R79): its tags are freed, its open pieces take the status, and it finishes. -/
def State.endEntry (s : State) (n : EntryNo) (e : Entry) (st : Status) : State :=
  State.finishEntry (s.modifyPort e.port fun x => { x with tagsInUse := releaseTags x.tagsInUse e.pieces }) n (e.endAll st)

/-- One event finishes every entry it reaches, in ascending entry number (R79). -/
def State.endEntries (s : State) (reaches : Entry → Bool) (st : Status) : State :=
  allEntries.foldl (fun s n =>
    match s.entry n with
    | some e => if reaches e then s.endEntry n e st else s
    | none => s) s

/-- A purge of a slot (R84): every QUEUED entry bound to it that owes an answer. -/
def State.purge (s : State) (n : SlotNo) (st : Status) : State :=
  s.endEntries (fun e => e.slot == n && e.issued == 0 && e.owes.isSome) st

/-- Every piece tag of the port is freed (R72, R85, R86). -/
def State.freeTags (s : State) (p : Port) : State :=
  s.modifyPort p fun x => { x with tagsInUse := Vector.replicate 8 false }

/-- The port's entries at REALIGN entry (R85): those with a piece issued end RETRAINED, the QUEUED ones stay. -/
def State.retrainEntries (s : State) (p : Port) : State :=
  (s.endEntries (fun e => e.port == p && e.issued != 0) .retrained).freeTags p

/-- The port's entries at link loss, PORT_RESET and PORT_DISABLE (R86): all end LINK_DOWN. -/
def State.dropEntries (s : State) (p : Port) : State :=
  ((s.endEntries (fun e => e.port == p) .linkDown).freeTags p).modifyPort p fun x => { x with issueList := [] }

/-! ### Drain start, reshape acceptance, immediate retirement (R8, R10, R12) -/

/-- A drain starts (R10): the cause is recorded, any reshape is abandoned, the slot is purged RETIRED, and a claim with nothing
in flight is retired within the same happening. -/
def State.startDrain (s : State) (n : SlotNo) (c : Claim) (cause : RetireCause) : State :=
  ((s.setClaim n (some { c with phase := .draining cause })).purge n .retired).settle n

/-- A reshape is accepted (R8): the pending shape is recorded, the slot is purged MOVED, and a claim with nothing in flight
commits within the same happening. -/
def State.acceptReshape (s : State) (n : SlotNo) (c : Claim) (base size : Nat) : State :=
  ((s.setClaim n (some { c with phase := .reshaping base size })).purge n .moved).settle n

/-- A BOARD claim is retired at once (R12): FREE, counted out, CLAIM_CHANGE; nothing is owed. -/
def State.retireNow (s : State) (n : SlotNo) (p : Port) : State :=
  (s.setClaim n none).countOut p

/-- The port's claims that a test picks are retired at once, in ascending slot order (R12, R141, R143). -/
def State.retireWhere (s : State) (p : Port) (picks : Claim → Bool) : State :=
  allSlots.foldl (fun s n =>
    match s.claim n with
    | some c => if picks c then s.retireNow n p else s
    | none => s) s

end Sys2Proof.Machine
end

