-- ==== Sys2Proof/Machine/Link.lean ====
section
/-! DEFINITION. The shared operations of the port controllers (chapters 5 to 7): entering GREET, greet failure, REALIGN entry,
attempt failure, link loss, the end of a session by PORT_DISABLE or PORT_RESET, return to RUN, and the reception of a board message
with its sequence number (R96). -/

namespace Sys2Proof.Machine

/-! ### Limits (section 5.1, R117), in µs -/

def greetLimit : Nat := 20000
def attemptLimit : Nat := 2000
def resetLimit : Nat := 1000
def answerLimit : Nat := 1000

/-! ### Greeting -/

/-- Entry into GREET (R94, R99); no COMPLETE of an ended session is stray after it (log 22). -/
def State.enterGreet (s : State) (p : Port) : State :=
  s.modifyPort p fun x => { x with state := .greet, greetTimer := some greetLimit, sendSeq := 0, endedTags := Vector.replicate 8 false }

/-- A greeting fails (R100): LISTEN, or FAULT at the fourth failure. -/
def State.greetFailure (s : State) (p : Port) : State :=
  let count := (s.port p).greetFailures + 1
  if count < 4 then
    s.modifyPort p fun x => { x with greetTimer := none, greetFailures := count, state := .listen }
  else
    (s.modifyPort p fun x => { x with greetTimer := none, greetFailures := count, state := .fault }).raisePort p .fault

/-! ### REALIGN -/

/-- A power command running for the port ends at REALIGN entry (R134): PORT_SLEEP whose SLEEP_REQ was outstanding ends
BOARD_DECLINED, PORT_WAKE of a port in WAKING ends WAKE_FAILED. -/
def State.endPowerCommand (s : State) (p : Port) (x : PortRecord) : State :=
  if x.handshake = .sleepReq then s.reportEnd .portSleep p.val .boardDeclined
  else if x.state = .waking then s.reportEnd .portWake p.val .wakeFailed
  else s

/-- ALIGN is sent and the attempt timer started (R103, R104, R105). -/
def State.sendAlign (s : State) (p : Port) : State :=
  (s.transmitAlign p).modifyPort p fun x => { x with attemptTimer := some attemptLimit }

/-- REALIGN entry (R103, R134). -/
def State.enterRealign (s : State) (p : Port) : State :=
  let s1 := s.modifyPort p fun x =>
    { x with
      dozeIdleTimer := none
      answerTimer := none
      wakeExitTimer := none
      handshake := .none
      state := .realign }
  let s2 := s1.endPowerCommand p (s.port p)
  let s3 := s2.retrainEntries p
  let s4 := s3.modifyPort p fun x => { x with realignAttempts := 0, realignLimit := s.realignLimit }
  s4.sendAlign p

/-! ### Link loss (R110, R137 to R139) -/

/-- The link commands that end LINK_LOST when the port's link is lost (R110 step 8, R114, R164). -/
def State.endLinkCommands (s : State) (p : Port) : State :=
  ((s.reportEnd .portRetrain p.val .linkLost).reportEnd .portSleep p.val .linkLost).reportEnd .portWake p.val .linkLost

/-- Step 4 of link loss (R137): LIVE and RESHAPING board claims of the port become ORPHANED over their current extents. -/
def Claim.orphaned (c : Claim) (p : Port) : Claim :=
  if c.isBoardOf p then
    match c.phase with
    | .live => { c with phase := .orphaned }
    | .reshaping _ _ => { c with phase := .orphaned }
    | .draining _ => c
    | .orphaned => c
  else c

def State.orphanClaims (s : State) (p : Port) : State :=
  allSlots.foldl (fun s n =>
    match s.claim n with
    | some c => s.setClaim n (some (c.orphaned p))
    | none => s) s

/-- Step 6 of link loss (R139): the orphans are held under the hold timer, or dropped where the hold time is 0. -/
def State.holdOrphans (s : State) (p : Port) : State :=
  if (s.orphans p).isEmpty then s
  else if (s.port p).holdTime = 0 then
    (s.retireWhere p fun c => c.isOrphanOf p).raisePort p .orphansDropped
  else
    (s.modifyPort p fun x => { x with holdTimer := some x.holdTime }).raisePort p .claimsOrphaned

/-- The port's part of a session that ends (R110 steps 1 to 3, R112 steps 1 to 3): every timer but the hold timer stops, the lists
and the notice are cleared, identity, credit and sequences are cleared. The tags then in use are those whose COMPLETE, taken second, is
stray (R89; log 22). -/
def PortRecord.endSession (x : PortRecord) (st : PortState) : PortRecord :=
  { x with
    state := st
    greetTimer := none
    attemptTimer := none
    resetTimer := none
    dozeIdleTimer := none
    answerTimer := none
    wakeExitTimer := none
    handshake := .none
    receiveList := []
    owed := []
    noticeAckOwed := false
    notice := none
    identity := none
    credit := 0
    dozeCapable := false
    realignAttempts := 0
    sendSeq := 0
    recvSeq := 0
    endedTags := x.tagsInUse }

/-- Link loss (R110). -/
def State.linkLoss (s : State) (p : Port) : State :=
  let s1 := s.modifyPort p fun x => x.endSession .listen
  let s2 := s1.orphanClaims p
  let s3 := s2.dropEntries p
  let s4 := s3.holdOrphans p
  (s4.raisePort p .linkLost).endLinkCommands p

/-- An attempt fails in REALIGN (R105): ALIGN again, or link loss where the REALIGN is exhausted. -/
def State.attemptFailure (s : State) (p : Port) : State :=
  let count := (s.port p).realignAttempts + 1
  let s1 := s.modifyPort p fun x => { x with realignAttempts := count }
  if count = (s.port p).realignLimit then s1.linkLoss p else s1.sendAlign p

/-! ### The end of a session by a port command (R112, R113, R24) -/

/-- PORT_DISABLE and PORT_RESET end the session of a port: the hold timer and the greet failure count go too, the entries end
LINK_DOWN and every board claim of the port is retired (R112, R113). -/
def State.closePort (s : State) (p : Port) (st : PortState) (signalling : Timer) : State :=
  let s1 := s.modifyPort p fun x =>
    { x.endSession st with holdTimer := none, greetFailures := 0, resetTimer := signalling }
  (s1.dropEntries p).retireWhere p fun c => c.isBoardOf p

/-! ### Entering RUN -/

/-- The port enters RUN, where the doze idle timer starts by R119. -/
def State.enterRun (s : State) (p : Port) : State :=
  (s.modifyPort p fun x => { x with state := .run }).restartIdle p

/-! ### Receiving a board message (R95, R96) -/

/-- The receiver is open in GREET and in the linked states (R95). -/
def PortState.receiverOpen : PortState → Bool
  | .greet | .run | .realign | .doze | .sleep | .waking => true
  | .off | .listen | .resetting | .fault => false

/-- A link error or an attempt failure: what a message with a bad check does by the port state (R180). -/
def State.badCheck (s : State) (p : Port) : State :=
  match (s.port p).state with
  | .run | .doze | .sleep | .waking => s.enterRealign p
  | .realign => s.attemptFailure p
  | .greet => s
  | .off | .listen | .resetting | .fault => s

/-- A message with a right check value arrives: a closed receiver drops it, GREET and REALIGN do not compare its sequence number,
and the other linked states take a wrong number as a bad check and a right one by advancing the receive sequence and restarting the
doze idle timer (R95, R96, R119). The COMPLETE that row 3 of R89 calls stray does not come here (`State.takeLateComplete`; log 22). -/
def State.receive (s : State) (p : Port) (seq : Byte) (act : State → State) : State :=
  match (s.port p).state with
  | .off | .listen | .resetting | .fault => s
  | .greet | .realign => act s
  | .run | .doze | .sleep | .waking =>
    if seq = (s.port p).recvSeq then
      act ((s.modifyPort p fun x => { x with recvSeq := x.recvSeq + 1 }).restartIdle p)
    else s.badCheck p

/-- The message is discarded and PROTOCOL is raised (R25, R95, R97). -/
def State.protocolError (s : State) (p : Port) : State :=
  s.raisePort p .protocol

end Sys2Proof.Machine
end

