-- ==== Sys2Proof/Machine/Accesses.lean ====
section
/-! DEFINITION. Pieces and their answers (chapter 4): PIECE_ISSUE, COMPLETE, COMPLETION_TIMER_EXPIRY. -/

namespace Sys2Proof.Machine

/-- The lowest-numbered free piece tag of the port, below its credit (R71, R72). -/
def PortRecord.freeTag (x : PortRecord) : Option PieceTag :=
  allTags.find? fun t => decide (t.val < x.credit) && !x.tagsInUse[t]

/-- The address of piece `k` (R58). -/
def Entry.pieceAddress (e : Entry) (k : Nat) : Nat :=
  e.address + k * e.pieceWidth

/-- The bytes of write data that piece `k` carries (R58). -/
def Entry.pieceData (e : Entry) (k : Nat) : List Byte :=
  (e.data.drop (k * e.pieceWidth)).take e.pieceWidth

/-- The entry after its next piece is issued under a tag: the first piece starts the completion timer (R71, R81). -/
def Entry.issueNext (e : Entry) (tag : PieceTag) (timeout : Nat) : Entry :=
  { e with
    pieces := e.pieces.set e.issued (.outstanding tag)
    issued := e.issued + 1
    timer := if e.issued = 0 then some timeout else e.timer }

/-- The next piece of the entry at the head of the port's issue list is issued under the tag (R68, R70, R71). -/
def State.issuePiece (s : State) (p : Port) (n : EntryNo) (e : Entry) (tag : PieceTag) : State :=
  let s1 := s.setEntry n (some (e.issueNext tag s.completionTimeout))
  let s2 := s1.modifyPort p fun x =>
    { x with
      tagsInUse := x.tagsInUse.set tag.val true tag.isLt
      issueList := if e.issued + 1 < e.pieces.length then x.issueList else x.issueList.filter (· != n) }
  s2.transmit p (.access tag e.kind e.space (e.pieceAddress e.issued) e.pieceWidth (e.pieceData e.issued))

/-- PIECE_ISSUE (R71): in RUN with no handshake of the CD8 outstanding and a tag free. -/
def execPieceIssue (p : Port) (s : State) : Host.Outcome State Fault Refusal :=
  if (s.port p).state = .run ∧ (s.port p).handshake = .none then
    match (s.port p).issueList, (s.port p).freeTag with
    | n :: _, some tag =>
      match s.entry n with
      | some e => .next (s.issuePiece p n e tag)
      | none => .next s
    | [], _ => .next s
    | _ :: _, none => .next s
  else .next s

/-! ### COMPLETE -/

/-- The place of the port's entry with an OUTSTANDING piece under the tag (R74). -/
def State.entryOfTag (s : State) (p : Port) (tag : Nat) : Option EntryNo :=
  allEntries.find? fun n =>
    match s.entry n with
    | some e => e.port == p && e.pieces.any fun o => o.holds tag
    | none => false

/-- The data count an OK COMPLETE must have: the piece width for a READ, 0 for a WRITE (R75). -/
def Entry.wantedCount (e : Entry) : Nat :=
  match e.kind with
  | .read => e.pieceWidth
  | .write => 0

/-- The piece's outcome (R75): a result code above 2 is taken as ERROR (R182). -/
def Entry.judge (e : Entry) (m : CompleteMsg) : Status :=
  if m.result = 0 ∧ m.data.length = e.wantedCount then .ok else .boardError

/-- The data of a READ piece ended OK is written to the read buffer at the piece's place (R78). -/
def Entry.store (e : Entry) (k : Nat) (data : List Byte) : Entry :=
  match e.kind with
  | .read => { e with buffer := e.buffer.take (k * e.pieceWidth) ++ data ++ e.buffer.drop ((k + 1) * e.pieceWidth) }
  | .write => e

/-- The entry after a COMPLETE ends piece `k` (R74, R75, R77, R78). -/
def Entry.completePiece (e : Entry) (k : Nat) (m : CompleteMsg) : Entry :=
  let e1 := e.endPiece k (e.judge m)
  let e2 := { e1 with completed := e1.completed + 1 }
  if e.judge m = .ok then e2.store k m.data else e2

/-- Every piece issued and none outstanding (R74). -/
def Entry.finished (e : Entry) : Bool :=
  e.issued == e.pieces.length && !e.pieces.any PieceOutcome.isOutstanding

/-- A matched COMPLETE (R74): the tag is freed, the piece ends, and an entry whose last piece ended finishes (R79). -/
def State.matchedComplete (s : State) (p : Port) (n : EntryNo) (e : Entry) (m : CompleteMsg) : State :=
  let k := e.pieces.findIdx fun o => o.holds m.tag.toNat
  let e1 := e.completePiece k m
  let s1 := s.modifyPort p fun x =>
    { x with tagsInUse := if h : m.tag.toNat < 8 then x.tagsInUse.set m.tag.toNat false h else x.tagsInUse }
  let s2 := if m.result = 0 ∧ m.data.length ≠ e.wantedCount then s1.protocolError p else s1
  if e1.finished then s2.finishEntry n e1 else s2.setEntry n (some e1)

/-- A COMPLETE with a good check and length (R74, R76); more than 8 data bytes are a bad length (R181; log 17). -/
def State.takeComplete (s : State) (p : Port) (m : CompleteMsg) : State :=
  if 8 < m.data.length then s.protocolError p
  else
    match s.entryOfTag p m.tag.toNat with
    | none => s.raisePort p .stray
    | some n =>
      match s.entry n with
      | some e => s.matchedComplete p n e m
      | none => s.raisePort p .stray

/-- The COMPLETE answers a piece that the end of the port's session ended (R89, row 3; log 22): the port stands in the closed state the
session ended in, and the tag was in use then. -/
def PortRecord.lateComplete (x : PortRecord) (m : CompleteMsg) : Bool :=
  !x.state.receiverOpen && decide (m.data.length ≤ 8) && x.endedTags[m.tag.toNat]?.getD false

/-- A COMPLETE taken second to link loss, PORT_RESET or PORT_DISABLE finds no outstanding piece and is stray (R76, R89), once for each
piece (log 22). -/
def State.takeLateComplete (s : State) (p : Port) (m : CompleteMsg) : State :=
  (s.modifyPort p fun x => { x with endedTags := x.endedTags.setIfInBounds m.tag.toNat false }).raisePort p .stray

/-- COMPLETE (R74, R89, R95, R97; of a session just ended: log 22). -/
def execComplete (p : Port) (seq : Byte) (m : CompleteMsg) (s : State) : Host.Outcome State Fault Refusal :=
  if (s.port p).lateComplete m then .next (s.takeLateComplete p m)
  else .next (s.receive p seq fun s => s.takeComplete p m)

/-- COMPLETION_TIMER_EXPIRY (R82): taken only of a running timer, whose port is then in RUN. -/
def execCompletionTimerExpiry (n : EntryNo) (s : State) : Host.Outcome State Fault Refusal :=
  match s.entry n with
  | none => .next s
  | some e =>
    if e.timer.isSome ∧ (s.port e.port).state = .run then
      .next (((s.endEntry n e .timeout).raisePort e.port .timeout).enterRealign e.port)
    else .next s

end Sys2Proof.Machine
end

