-- ==== Sys2Proof/Machine/ClaimMessages.lean ====
section
/-! DEFINITION. The board claim protocol (chapter 2): CLAIM, RESHAPE and RELEASE arriving, their taking by the claim protocol engine,
and OWED_MESSAGE_SEND. -/

namespace Sys2Proof.Machine

/-- The claim receive list's room (R25). -/
def receiveLimit : Nat := 16

/-- A claim message by the port state (R25): in RUN it joins the receive list if there is room; otherwise PROTOCOL. -/
def State.queueClaimMessage (s : State) (p : Port) (m : ClaimMessage) : State :=
  if (s.port p).state = .run ∧ (s.port p).receiveList.length < receiveLimit then
    s.modifyPort p fun x => { x with receiveList := x.receiveList ++ [m] }
  else s.protocolError p

/-- CLAIM (R25). -/
def execClaim (p : Port) (seq : Byte) (m : ClaimFields) (s : State) : Host.Outcome State Fault Refusal :=
  .next (s.receive p seq fun s => s.queueClaimMessage p (.claim m))

/-- RESHAPE (R25). -/
def execReshape (p : Port) (seq : Byte) (m : ReshapeFields) (s : State) : Host.Outcome State Fault Refusal :=
  .next (s.receive p seq fun s => s.queueClaimMessage p (.reshape m))

/-- RELEASE (R25). -/
def execRelease (p : Port) (seq : Byte) (h : Handle) (s : State) : Host.Outcome State Fault Refusal :=
  .next (s.receive p seq fun s => s.queueClaimMessage p (.release h))

/-! ### Taking (R26) -/

/-- The owed list holds a message for the handle (R26). -/
def PortRecord.owes (x : PortRecord) (h : Handle) : Bool :=
  x.owed.any fun m => m.handle == some h

/-- The head of the receive list, if the engine may take it: the port is in RUN and nothing is owed for its handle (R26). -/
def PortRecord.takeable (x : PortRecord) : Option ClaimMessage :=
  if x.state = .run then
    match x.receiveList with
    | [] => none
    | m :: _ => if x.owes m.handle then none else some m
  else none

/-- Taking removes the message from the receive list (R26). -/
def State.dropHead (s : State) (p : Port) : State :=
  s.modifyPort p fun x => { x with receiveList := x.receiveList.tail }

/-- A refusal (R29): a REFUSE becomes owed, and nothing else changes. -/
def State.refuse (s : State) (p : Port) (h : Handle) (r : Reason) : State :=
  s.owe p (.refuse h r)

/-- The checks of a CLAIM in the order of R28, and its admission (R30). -/
def State.judgeClaim (s : State) (p : Port) (m : ClaimFields) : State :=
  match spaceOfCode m.spaceCode.toNat with
  | none => s.refuse p m.handle .badShape
  | some sp =>
    let base := if m.any then none else some m.base.toNat
    if !shapeGood sp base m.size.toNat (some m.width.toNat) then s.refuse p m.handle .badShape
    else if !(s.pool sp).holds base m.size.toNat then s.refuse p m.handle .outOfPool
    else if (s.slotOfHandle p m.handle).isSome then s.refuse p m.handle .handleBusy
    else if (s.port p).claimCount = (s.port p).quota then s.refuse p m.handle .quota
    else
      match s.freeSlot with
      | none => s.refuse p m.handle .tableFull
      | some n =>
        match s.room sp base m.size.toNat none with
        | .error r => s.refuse p m.handle r
        | .ok b => s.admitBoard n p m.handle ((s.port p).identity.getD 0) m.attributes sp b m.size.toNat

/-- The claim is in the middle of a reshape or a drain (R28). -/
def Phase.inMotion : Phase → Bool
  | .reshaping _ _ | .draining _ => true
  | .live | .orphaned => false

/-- The checks of a RESHAPE of the claim found (R28), and its acceptance (R31). -/
def State.judgeReshapeOf (s : State) (p : Port) (m : ReshapeFields) (n : SlotNo) (c : Claim) : State :=
  let base := if m.any then none else some m.base.toNat
  if !shapeGood c.space base m.size.toNat none then s.refuse p m.handle .badShape
  else if !(s.pool c.space).holds base m.size.toNat then s.refuse p m.handle .outOfPool
  else if c.phase.inMotion then s.refuse p m.handle .busy
  else
    match s.room c.space base m.size.toNat (some n) with
    | .error r => s.refuse p m.handle r
    | .ok b => s.acceptReshape n c b m.size.toNat

def State.judgeReshape (s : State) (p : Port) (m : ReshapeFields) : State :=
  match s.slotOfHandle p m.handle with
  | none => s.refuse p m.handle .noHandle
  | some n =>
    match s.claim n with
    | none => s.refuse p m.handle .noHandle
    | some c => s.judgeReshapeOf p m n c

/-- The checks of a RELEASE (R28), and its drain (R33). -/
def State.judgeRelease (s : State) (p : Port) (h : Handle) : State :=
  match s.slotOfHandle p h with
  | none => s.refuse p h .noHandle
  | some n =>
    match s.claim n with
    | none => s.refuse p h .noHandle
    | some c => if c.phase.inMotion then s.refuse p h .busy else s.startDrain n c .release

/-- TAKE_CLAIM (R26, R28, R30): taken only where the head is a CLAIM that may be taken. -/
def execTakeClaim (p : Port) (s : State) : Host.Outcome State Fault Refusal :=
  match (s.port p).takeable with
  | some (.claim m) => .next ((s.dropHead p).judgeClaim p m)
  | some (.reshape _) | some (.release _) | none => .next s

/-- TAKE_RESHAPE (R26, R28, R31). -/
def execTakeReshape (p : Port) (s : State) : Host.Outcome State Fault Refusal :=
  match (s.port p).takeable with
  | some (.reshape m) => .next ((s.dropHead p).judgeReshape p m)
  | some (.claim _) | some (.release _) | none => .next s

/-- TAKE_RELEASE (R26, R28, R33). -/
def execTakeRelease (p : Port) (s : State) : Host.Outcome State Fault Refusal :=
  match (s.port p).takeable with
  | some (.release h) => .next ((s.dropHead p).judgeRelease p h)
  | some (.claim _) | some (.reshape _) | none => .next s

/-- OWED_MESSAGE_SEND (R36, R37): in RUN with no handshake of the CD8 outstanding, the head of the owed list is sent; the sending of
NOTICE_ACK clears the notice-ack-owed flag. -/
def execOwedMessageSend (p : Port) (s : State) : Host.Outcome State Fault Refusal :=
  if (s.port p).state = .run ∧ (s.port p).handshake = .none then
    match (s.port p).owed with
    | [] => .next s
    | m :: rest =>
      .next ((s.modifyPort p fun x =>
        { x with owed := rest, noticeAckOwed := x.noticeAckOwed && decide (m ≠ OwedMessage.noticeAck) }).transmit p (.owed m))
  else .next s

end Sys2Proof.Machine
end

