-- ==== Sys2Proof/Machine/Greeting.lean ====
section
/-! DEFINITION. Presence and greeting (sections 5.2 and 5.4, chapter 7): PRESENCE_APPEARS, PRESENCE_LOST, GREET_ENTRY, HELLO,
GREET_TIMER_EXPIRY. -/

namespace Sys2Proof.Machine

/-- PRESENCE_APPEARS (R93, R94). Where presence holds already, it does not arise. -/
def execPresenceAppears (p : Port) (s : State) : Host.Outcome State Fault Refusal :=
  if (s.port p).present then .next s
  else
    let s1 := s.modifyPort p fun x => { x with present := true }
    if (s.port p).state = .listen then .next (s1.enterGreet p) else .next s1

/-- The loss of presence by the port state (R93). -/
def State.losePartner (s : State) (p : Port) : State :=
  match (s.port p).state with
  | .greet => s.modifyPort p fun x => { x with greetTimer := none, state := .listen }
  | .run | .realign | .doze | .sleep | .waking => s.linkLoss p
  | .off | .listen | .resetting | .fault => s

/-- PRESENCE_LOST (R93). Where presence is absent already, it does not arise. -/
def execPresenceLost (p : Port) (s : State) : Host.Outcome State Fault Refusal :=
  if (s.port p).present then .next ((s.modifyPort p fun x => { x with present := false }).losePartner p)
  else .next s

/-- GREET_ENTRY (R94): a port in LISTEN with presence holding enters GREET. -/
def execGreetEntry (p : Port) (s : State) : Host.Outcome State Fault Refusal :=
  if (s.port p).state = .listen ∧ (s.port p).present then .next (s.enterGreet p) else .next s

/-! ### HELLO -/

/-- Every one of the slots holds a claim whose owner identity is `identity` (R142). -/
def State.ownedBy (s : State) (slots : List SlotNo) (identity : Word) : Bool :=
  slots.all fun n =>
    match s.claim n with
    | some c =>
      match c.owner with
      | .board _ _ i _ => i == identity
      | .fixed | .fence | .route _ _ => false
    | none => false

/-- The port's orphans become LIVE (R142). -/
def State.resumeClaims (s : State) (slots : List SlotNo) : State :=
  slots.foldl (fun s n =>
    match s.claim n with
    | some c => s.setClaim n (some { c with phase := .live })
    | none => s) s

def State.stopHold (s : State) (p : Port) : State :=
  s.modifyPort p fun x => { x with holdTimer := none }

/-- The slots a good HELLO of this identity resumes: every orphan of the port, or none (R142, R143). -/
def State.resumable (s : State) (p : Port) (identity : Word) : List SlotNo :=
  if identity ≠ 0 ∧ s.ownedBy (s.orphans p) identity then s.orphans p else []

/-- The resolution of the port's orphans at a good HELLO (R142, R143): resumed, retired, or none to resolve. -/
def State.resolveOrphans (s : State) (p : Port) (identity : Word) : State :=
  if (s.orphans p).isEmpty then s.stopHold p
  else if identity ≠ 0 ∧ s.ownedBy (s.orphans p) identity then
    ((s.resumeClaims (s.orphans p)).stopHold p).raisePort p .reattached
  else
    ((s.retireWhere p fun c => c.isOrphanOf p).raisePort p .orphansDropped).stopHold p

/-- The GRANT of the resumed claim with handle `h`, if there is one (R34, R144). -/
def State.replayGrant (p : Port) (resumed : List SlotNo) (s : State) (h : Handle) : State :=
  match resumed.find? fun n =>
      match s.claim n with
      | some c => c.carries p h
      | none => false with
  | none => s
  | some n =>
    match s.claim n with
    | some c => s.owe p (.grant h n c.space c.base c.size)
    | none => s

/-- A good HELLO in GREET (R99). -/
def State.acceptHello (s : State) (p : Port) (seq : Byte) (m : HelloMsg) : State :=
  let s1 := s.modifyPort p fun x =>
    { x with
      greetTimer := none
      identity := some m.identity
      credit := m.credit.toNat
      dozeCapable := m.dozeCapable
      recvSeq := seq + 1 }
  let resumed := s1.resumable p m.identity
  let s2 := s1.resolveOrphans p m.identity
  let s3 := s2.transmit p (.welcome p (s2.port p).quota resumed.length)
  let s4 := (s3.modifyPort p fun x => { x with greetFailures := 0, realignAttempts := 0 }).enterRun p
  (allHandles.foldl (State.replayGrant p resumed) s4).raisePort p .linkUp

/-- HELLO by the port state (R97, R99, R100). -/
def State.takeHello (s : State) (p : Port) (seq : Byte) (m : HelloMsg) : State :=
  match (s.port p).state with
  | .greet => if m.good then s.acceptHello p seq m else s.greetFailure p
  | .run | .realign | .doze | .sleep | .waking => s.protocolError p
  | .off | .listen | .resetting | .fault => s

/-- HELLO (R97, R99, R100). -/
def execHello (p : Port) (seq : Byte) (m : HelloMsg) (s : State) : Host.Outcome State Fault Refusal :=
  .next (s.receive p seq fun s => s.takeHello p seq m)

/-- GREET_TIMER_EXPIRY (R100): taken only of a running timer. -/
def execGreetTimerExpiry (p : Port) (s : State) : Host.Outcome State Fault Refusal :=
  if (s.port p).state = .greet ∧ (s.port p).greetTimer.isSome then .next (s.greetFailure p) else .next s

end Sys2Proof.Machine
end

