-- ==== Sys2Proof/Machine/Commands.lean ====
section
/-! DEFINITION. The command unit's fifteen host commands (chapter 8), each on the state in which the slot has latched it: what it
checks, does and returns. `State.issue` takes an issue write (R153, R154). -/

namespace Sys2Proof.Machine

/-! ### Arguments -/

/-- The slot and the port an argument word names; R154 has judged the range. -/
def slotOf (w : Word) : SlotNo := ⟨w.toNat % 64, Nat.mod_lt _ (by decide)⟩
def portOf (w : Word) : Port := ⟨w.toNat % 8, Nat.mod_lt _ (by decide)⟩

/-- The owner HOST_CLAIM's arguments describe; none where R154 finds the kind, the posting or the wake policy out of range. -/
def HostClaimArgs.owner (a : HostClaimArgs) : Option Owner :=
  match a.kindCode with
  | 1 =>
    match postingOfCode a.postingCode, wakeOfCode a.wakeCode with
    | some g, some k => some (.route ⟨a.port % 8, Nat.mod_lt _ (by decide)⟩ ⟨a.width, g, k⟩)
    | _, _ => none
  | 2 => some .fence
  | _ => none

/-- HOST_CLAIM records a unit width for kind ROUTE alone (R1). -/
def HostClaimArgs.recordedWidth (a : HostClaimArgs) : Option Nat :=
  if a.kindCode = 1 then some a.width else none

def HostClaimArgs.explicitBase (a : HostClaimArgs) : Option Nat :=
  if a.any then none else some a.base

/-- The range of a timing setting (R168). -/
def timingRange (setting value : Nat) : Bool :=
  match setting with
  | 1 => decide (100 ≤ value) && decide (value ≤ 65000)
  | 2 => decide (value ≤ 65000)
  | 3 => decide (1 ≤ value) && decide (value ≤ 7)
  | _ => false

/-- An argument is outside the range the command accepts (R154). -/
def badArgument (c : HostCommand) (r : CommandRecord) : Bool :=
  match c with
  | .hostClaim => r.hostClaimArgs.owner.isNone
  | .hostRetire | .revoke => decide (63 < r.arg0.toNat)
  | .readClaim => decide (63 < r.arg0.toNat) || decide (1 < r.arg1.toNat)
  | .find =>
    match spaceOfCode r.arg0.toNat with
    | some sp => decide (Space.lastAddress sp < r.arg1.toNat)
    | none => true
  | .portEnable | .portDisable | .portReset | .portRetrain | .portSleep | .portWake => decide (7 < r.arg0.toNat)
  | .setQuota => decide (7 < r.arg0.toNat) || decide (16 < r.arg1.toNat)
  | .setHold => decide (7 < r.arg0.toNat) || decide (60000 < r.arg1.toNat)
  | .setPool =>
    match spaceOfCode r.arg0.toNat with
    | some sp => !poolGood sp ⟨r.arg1.toNat, r.arg2.toNat⟩
    | none => true
  | .setTiming => !timingRange r.arg0.toNat r.arg1.toNat

/-! ### Commands on claims (section 8.3) -/

/-- HOST_CLAIM (R158). -/
def State.commandHostClaim (s : State) : State :=
  let a := s.latched.hostClaimArgs
  match a.owner with
  | none => s.finishCommand .badArgument
  | some o =>
    match spaceOfCode a.spaceCode with
    | none => s.refuseCommand .badShape
    | some sp =>
      if !shapeGood sp a.explicitBase a.size a.recordedWidth then s.refuseCommand .badShape
      else if a.kindCode = 1 ∧ 7 < a.port then s.refuseCommand .badPort
      else
        match s.freeSlot with
        | none => s.refuseCommand .tableFull
        | some n =>
          match s.room sp a.explicitBase a.size none with
          | .error r => s.refuseCommand r
          | .ok b => (s.setClaim n (some (newClaim o sp b a.size))).finishCommand .done n.val b a.size

/-- HOST_RETIRE (R159). -/
def State.commandHostRetire (s : State) : State :=
  let n := slotOf s.latched.arg0
  if n = 0 then s.refuseCommand .fixed
  else
    match s.claim n with
    | none => s.refuseCommand .noClaim
    | some c =>
      match c.owner with
      | .fixed => s.refuseCommand .fixed
      | .board _ _ _ _ => s.refuseCommand .notHost
      | .fence => s.startDrain n c .hostRetire
      | .route _ _ => s.startDrain n c .hostRetire

/-- REVOKE of an ORPHANED claim (R145): retired at once, and the hold timer stops with the port's last orphan. -/
def State.revokeOrphan (s : State) (n : SlotNo) (p : Port) : State :=
  let s1 := s.retireNow n p
  let s2 := if (s1.orphans p).isEmpty then s1.modifyPort p fun x => { x with holdTimer := none } else s1
  s2.finishCommand .done n.val

/-- REVOKE (R160). -/
def State.commandRevoke (s : State) : State :=
  let n := slotOf s.latched.arg0
  if n = 0 then s.refuseCommand .fixed
  else
    match s.claim n with
    | none => s.refuseCommand .noClaim
    | some c =>
      match c.owner with
      | .fixed => s.refuseCommand .fixed
      | .fence | .route _ _ => s.refuseCommand .notBoard
      | .board p _ _ _ =>
        match c.phase with
        | .draining _ => s.finishCommand .alreadyRetiring
        | .orphaned => s.revokeOrphan n p
        | .live => s.startDrain n c .revoke
        | .reshaping _ _ => s.startDrain n c .revoke

/-! ### The READ_CLAIM image (R161, R183, section 10.5) -/

/-- The presence byte. -/
def Claim.presence (c : Claim) : Nat :=
  0x01 +
    (match c.owner with
      | .fixed => 0
      | .fence => 0x02
      | .route _ _ => 0x02 + 0x04 + 0x20
      | .board _ _ _ _ => 0x04 + 0x08 + 0x10 + 0x20) +
    (match c.phase with
      | .reshaping _ _ => 0x40
      | .draining _ => 0x80
      | .live | .orphaned => 0)

/-- Unit width, posting and wake policy in descriptor bits 25 to 30. -/
def Attributes.image (a : Attributes) : Nat :=
  a.width % 16 * 2 ^ 25 +
    (match a.posting with
      | .posted => 2 ^ 29
      | .nonposted => 0) +
    (match a.wake with
      | .nowake => 2 ^ 30
      | .wake => 0)

/-- Origin, kind, port, handle and attributes in their descriptor bits. -/
def Owner.image : Owner → Nat
  | .fixed => 1 * 2 ^ 11
  | .fence => 2 * 2 ^ 11 + 2 * 2 ^ 13
  | .route p a => 2 * 2 ^ 11 + 1 * 2 ^ 13 + p.val * 2 ^ 18 + a.image
  | .board p h _ a => 3 * 2 ^ 11 + p.val * 2 ^ 18 + h.val * 2 ^ 21 + a.image

/-- The claim descriptor. -/
def Claim.descriptor (c : Claim) : Nat :=
  c.presence + c.phase.code * 2 ^ 8 + c.owner.image + c.space.code * 2 ^ 16

def Owner.identity : Owner → Word
  | .board _ _ i _ => i
  | .fixed | .fence | .route _ _ => 0

def Phase.pending : Phase → Nat × Nat
  | .reshaping b z => (b, z)
  | .live | .draining _ | .orphaned => (0, 0)

def Phase.causeCode : Phase → Nat
  | .draining cause => cause.code
  | .live | .reshaping _ _ | .orphaned => 0

/-- The four words of an image part: part 0 or part 1. -/
def imageWords (c : Option Claim) (part : Nat) : Nat × Nat × Nat × Nat :=
  match c with
  | none => (0, 0, 0, 0)
  | some c =>
    if part = 0 then (c.descriptor, c.base, c.size, c.owner.identity.toNat)
    else (c.descriptor, c.phase.pending.1, c.phase.pending.2, c.inFlight % 64 + c.phase.causeCode * 2 ^ 8)

/-- READ_CLAIM (R161). -/
def State.commandReadClaim (s : State) : State :=
  let w := imageWords (s.claim (slotOf s.latched.arg0)) s.latched.arg1.toNat
  s.finishCommand .done w.1 w.2.1 w.2.2.1 w.2.2.2

/-- FIND (R162). -/
def State.commandFind (s : State) : State :=
  match spaceOfCode s.latched.arg0.toNat with
  | none => s.finishCommand .badArgument
  | some sp =>
    match s.lookup sp s.latched.arg1.toNat with
    | none => s.finishCommand .done 0xFFFFFFFF
    | some n =>
      match s.claim n with
      | none => s.finishCommand .done 0xFFFFFFFF
      | some c => s.finishCommand .done n.val c.phase.code

/-! ### Commands on ports (section 8.4) -/

/-- PORT_ENABLE (R114, R163); no COMPLETE of an ended session is stray after it (log 22). -/
def State.commandPortEnable (s : State) : State :=
  let p := portOf s.latched.arg0
  match (s.port p).state with
  | .off | .fault =>
    (s.modifyPort p fun x =>
      { x with greetFailures := 0, state := .listen, endedTags := Vector.replicate 8 false }).finishCommand .done
  | .listen | .greet | .run | .realign | .doze | .sleep | .waking | .resetting => s.refuseCommand .portState

/-- PORT_DISABLE (R112, R163). -/
def State.commandPortDisable (s : State) : State :=
  let p := portOf s.latched.arg0
  match (s.port p).state with
  | .off => s.finishCommand .done
  | .listen | .greet | .run | .realign | .doze | .sleep | .waking | .resetting | .fault =>
    (s.closePort p .off none).finishCommand .done

/-- PORT_RESET (R113, R163): it stays BUSY until the reset signalling ends. -/
def State.commandPortReset (s : State) : State :=
  let p := portOf s.latched.arg0
  match (s.port p).state with
  | .off => s.refuseCommand .portState
  | .listen | .greet | .run | .realign | .doze | .sleep | .waking | .resetting | .fault =>
    s.closePort p .resetting (some resetLimit)

/-- PORT_RETRAIN (R114, R164): it stays BUSY until its REALIGN ends. -/
def State.commandPortRetrain (s : State) : State :=
  let p := portOf s.latched.arg0
  match (s.port p).state with
  | .run => s.enterRealign p
  | .off | .listen | .greet | .realign | .doze | .sleep | .waking | .resetting | .fault => s.refuseCommand .portState

/-- PORT_SLEEP (R124, R164): it stays BUSY until the board answers. -/
def State.commandPortSleep (s : State) : State :=
  let p := portOf s.latched.arg0
  match (s.port p).state with
  | .run =>
    if (s.port p).handshake = .none ∧ s.hasEntry p = false then
      (s.modifyPort p fun x =>
        { x with handshake := .sleepReq, dozeIdleTimer := none, answerTimer := some answerLimit }).transmit p .sleepReq
    else s.refuseCommand .portBusy
  | .off | .listen | .greet | .realign | .doze | .sleep | .waking | .resetting | .fault => s.refuseCommand .portState

/-- PORT_WAKE (R132, R164): from DOZE or SLEEP it stays BUSY until the wake ends. -/
def State.commandPortWake (s : State) : State :=
  let p := portOf s.latched.arg0
  match (s.port p).state with
  | .run => s.finishCommand .done
  | .doze | .sleep => s.wakeCause p
  | .off | .listen | .greet | .realign | .waking | .resetting | .fault => s.refuseCommand .portState

/-! ### Settings (section 8.5) -/

/-- SET_QUOTA (R20, R165). -/
def State.commandSetQuota (s : State) : State :=
  let p := portOf s.latched.arg0
  let quota := s.latched.arg1.toNat
  if quota < (s.port p).claimCount then s.refuseCommand .belowCount
  else (s.modifyPort p fun x => { x with quota := quota }).finishCommand .done quota

/-- SET_HOLD (R136, R166). -/
def State.commandSetHold (s : State) : State :=
  let p := portOf s.latched.arg0
  let hold := s.latched.arg1.toNat
  (s.modifyPort p fun x => { x with holdTime := hold }).finishCommand .done hold

/-- SET_POOL (R16, R167). -/
def State.commandSetPool (s : State) : State :=
  match spaceOfCode s.latched.arg0.toNat with
  | none => s.finishCommand .badArgument
  | some sp =>
    let q : Pool := ⟨s.latched.arg1.toNat, s.latched.arg2.toNat⟩
    (s.setPool sp q).finishCommand .done q.first q.last

/-- Every running doze idle timer stops (R118). -/
def State.stopIdleTimers (s : State) : State :=
  allPorts.foldl (fun s p => s.modifyPort p fun x => { x with dozeIdleTimer := none }) s

/-- SET_TIMING (R81, R106, R118, R168). -/
def State.commandSetTiming (s : State) : State :=
  let value := s.latched.arg1.toNat
  match s.latched.arg0.toNat with
  | 1 => State.finishCommand { s with completionTimeout := value } .done value
  | 2 =>
    let s1 : State := { s with dozeIdleTime := value }
    (if value = 0 then s1.stopIdleTimers else s1).finishCommand .done value
  | 3 => State.finishCommand { s with realignLimit := value } .done value
  | _ => s.finishCommand .badArgument

/-! ### The command slot (section 8.2) -/

/-- The command's own rule, its arguments in range. -/
def State.perform (s : State) (c : HostCommand) : State :=
  match c with
  | .hostClaim => s.commandHostClaim
  | .hostRetire => s.commandHostRetire
  | .revoke => s.commandRevoke
  | .readClaim => s.commandReadClaim
  | .find => s.commandFind
  | .portEnable => s.commandPortEnable
  | .portDisable => s.commandPortDisable
  | .portReset => s.commandPortReset
  | .portRetrain => s.commandPortRetrain
  | .portSleep => s.commandPortSleep
  | .portWake => s.commandPortWake
  | .setQuota => s.commandSetQuota
  | .setHold => s.commandSetHold
  | .setPool => s.commandSetPool
  | .setTiming => s.commandSetTiming

/-- The start of the latched command (R154). -/
def State.startCommand (s : State) : State :=
  match HostCommand.ofCode s.latched.code with
  | none => s.finishCommand .badCommand
  | some c => if badArgument c s.latched then s.finishCommand .badArgument else s.perform c

/-- The slot latches the command record and becomes BUSY (R153). -/
def State.latch (s : State) : State :=
  { s with latched := s.command, slotState := .busy }

/-- An issue write (R153). -/
def State.issue (s : State) : State :=
  match s.slotState with
  | .busy => s.raiseGlobal .cmdOverrun
  | .idle | .done => s.latch.startCommand

end Sys2Proof.Machine
end

