-- ==== Sys2Proof/Machine/Window.lean ====
section
/-! DEFINITION. The management window (R59 to R61, R149, R184, section 10.6): the map of its registers, what a read of a word
returns, and what a write of bytes of a word does. -/

namespace Sys2Proof.Machine

/-- The registers of the window (section 10.6). -/
inductive Register where
  | partCode | revision
  | commandWord (i : Fin 5)
  | issue | slotState
  | resultWord (i : Fin 5)
  | globalFlags | mask
  | portFlags (p : Port)
  | noticeResponder | noticeAcknowledge
  | portStatus (p : Port) (i : Fin 4)
  | completionTimeout | dozeIdleTime | realignLimit
  | memFirst | memLast | ioFirst | ioLast
  | unassigned
  deriving DecidableEq, Repr

/-- The register at a word offset of the window (section 10.6). -/
def registerAt (offset : Nat) : Register :=
  match offset with
  | 0x000 => .partCode
  | 0x004 => .revision
  | 0x040 => .commandWord 0
  | 0x044 => .commandWord 1
  | 0x048 => .commandWord 2
  | 0x04C => .commandWord 3
  | 0x050 => .commandWord 4
  | 0x054 => .issue
  | 0x058 => .slotState
  | 0x060 => .resultWord 0
  | 0x064 => .resultWord 1
  | 0x068 => .resultWord 2
  | 0x06C => .resultWord 3
  | 0x070 => .resultWord 4
  | 0x100 => .globalFlags
  | 0x104 => .mask
  | 0x140 => .noticeResponder
  | 0x144 => .noticeAcknowledge
  | 0x300 => .completionTimeout
  | 0x304 => .dozeIdleTime
  | 0x308 => .realignLimit
  | 0x310 => .memFirst
  | 0x314 => .memLast
  | 0x318 => .ioFirst
  | 0x31C => .ioLast
  | _ =>
    if 0x110 ≤ offset ∧ offset < 0x130 then
      .portFlags ⟨(offset - 0x110) / 4 % 8, Nat.mod_lt _ (by decide)⟩
    else if 0x200 ≤ offset ∧ offset < 0x280 then
      .portStatus ⟨(offset - 0x200) / 0x10 % 8, Nat.mod_lt _ (by decide)⟩ ⟨offset / 4 % 4, Nat.mod_lt _ (by decide)⟩
    else .unassigned

/-! ### Reading (R60) -/

def CommandRecord.get (r : CommandRecord) : Fin 5 → Word
  | 0 => r.code
  | 1 => r.arg0
  | 2 => r.arg1
  | 3 => r.arg2
  | 4 => r.arg3

def CommandRecord.put (r : CommandRecord) (i : Fin 5) (v : Word) : CommandRecord :=
  match i with
  | 0 => { r with code := v }
  | 1 => { r with arg0 := v }
  | 2 => { r with arg1 := v }
  | 3 => { r with arg2 := v }
  | 4 => { r with arg3 := v }

def ResultRecord.get (r : ResultRecord) : Fin 5 → Word
  | 0 => r.status
  | 1 => r.word0
  | 2 => r.word1
  | 3 => r.word2
  | 4 => r.word3

/-- One bit at a place of a word. -/
def markBit (b : Bool) (place : Nat) : Nat :=
  if b then 2 ^ place else 0

/-- The four status words of a port (R116, R183, section 10.6). -/
def PortRecord.statusWord (x : PortRecord) : Fin 4 → Word
  | 0 => wordOf (x.state.code + x.credit * 2 ^ 8 + markBit x.holdTimer.isSome 16 + markBit x.identity.isSome 17)
  | 1 => x.identity.getD 0
  | 2 => wordOf (x.claimCount + x.quota * 2 ^ 8)
  | 3 => wordOf x.holdTime

/-- The notice responder (R176): the lowest-numbered port with a pending notice and its code, with the valid mark. -/
def State.noticeWord (s : State) : Word :=
  match allPorts.find? fun p => (s.port p).notice.isSome with
  | some p => wordOf (((s.port p).notice.getD 0).toNat + p.val * 2 ^ 8 + 2 ^ 31)
  | none => 0

/-- What a read of a register returns (R60, R149, R184). -/
def State.readRegister (s : State) : Register → Word
  | .partCode => 0x00000CD8
  | .revision => 0x00000001
  | .commandWord i => s.command.get i
  | .issue => 0
  | .slotState => wordOf s.slotState.code
  | .resultWord i => s.result.get i
  | .globalFlags => s.globalFlags.setWidth 32
  | .mask => s.maskWord
  | .portFlags p => (s.port p).flags.setWidth 32
  | .noticeResponder => s.noticeWord
  | .noticeAcknowledge => 0
  | .portStatus p i => (s.port p).statusWord i
  | .completionTimeout => wordOf s.completionTimeout
  | .dozeIdleTime => wordOf s.dozeIdleTime
  | .realignLimit => wordOf s.realignLimit
  | .memFirst => wordOf s.memPool.first
  | .memLast => wordOf s.memPool.last
  | .ioFirst => wordOf s.ioPool.first
  | .ioLast => wordOf s.ioPool.last
  | .unassigned => 0

/-- The `length` bytes of the window from `offset` upward (R60). -/
def State.windowLoad (s : State) (offset length : Nat) : List Byte :=
  (List.range length).map fun i => wordByte (s.readRegister (registerAt ((offset + i) / 4 * 4))) ((offset + i) % 4)

/-! ### Writing (R61, R149) -/

/-- An acknowledgement for a port (R177). -/
def State.acknowledge (s : State) (p : Port) : State :=
  match (s.port p).notice with
  | none => s
  | some _ =>
    if (s.port p).noticeAckOwed then s.modifyPort p fun x => { x with notice := none }
    else (s.modifyPort p fun x => { x with notice := none, noticeAckOwed := true }).owe p .noticeAck

/-- A write to the notice-acknowledge register (R177): `m` marks the bytes addressed, `v` holds what they carry. -/
def State.writeAcknowledge (s : State) (m v : Word) : State :=
  if m &&& 0xFF = 0 then s
  else if h : v.toNat % 256 < 8 then s.acknowledge ⟨v.toNat % 256, h⟩
  else s

/-- The bytes `m` marks replaced by those of `v` (R61). -/
def mergeBytes (old m v : Word) : Word :=
  (old &&& ~~~m) ||| (v &&& m)

/-- A write of the bytes that `m` marks of a register (R61, R149). -/
def State.writeRegister (s : State) (r : Register) (m v : Word) : State :=
  match r with
  | .commandWord i => { s with command := s.command.put i (mergeBytes (s.command.get i) m v) }
  | .issue => s.issue
  | .globalFlags => s.clearGlobal (v &&& m)
  | .mask => s.writeMask (mergeBytes s.maskWord m v)
  | .portFlags p => s.clearPort p (v &&& m)
  | .noticeAcknowledge => s.writeAcknowledge m v
  | .partCode | .revision | .slotState | .resultWord _ | .noticeResponder | .portStatus _ _ | .completionTimeout
  | .dozeIdleTime | .realignLimit | .memFirst | .memLast | .ioFirst | .ioLast | .unassigned => s

/-- The bytes of a word that an access of `length` bytes at `offset` marks. -/
def laneMask (offset length : Nat) : Word :=
  wordOf ((2 ^ (8 * length) - 1) * 2 ^ (8 * (offset % 4)))

/-- The data of an access at its place in the word. -/
def laneValue (offset : Nat) (data : List Byte) : Word :=
  wordOfBytes data <<< (8 * (offset % 4))

/-- A window WRITE of 1, 2, 4 or 8 bytes (R61): 8 bytes act on the lower word and then on the higher. -/
def State.windowStore (s : State) (offset : Nat) (data : List Byte) : State :=
  if data.length ≤ 4 then
    s.writeRegister (registerAt (offset / 4 * 4)) (laneMask offset data.length) (laneValue offset data)
  else
    (s.writeRegister (registerAt offset) 0xFFFFFFFF (wordOfBytes (data.take 4))).writeRegister
      (registerAt (offset + 4)) 0xFFFFFFFF (wordOfBytes (data.drop 4))

end Sys2Proof.Machine
end

