-- ==== Sys2Proof/Machine/Router.lean ====
section
/-! DEFINITION. The access router and the host link controller (chapter 3): validation, tag check, the decision of R51, the
immediate answers, the window, the creation of an entry; and the arrival of a request on the host link. -/

namespace Sys2Proof.Machine

/-! ### Validation (R49) -/

/-- The address lies in the management window: the extent of slot 0 (R49). -/
def State.inWindow (s : State) (sp : Space) (address : Nat) : Bool :=
  match s.claim 0 with
  | some c => c.meets sp (address, 1)
  | none => false

/-- The data faults of R49 (R179). -/
def dataFault (k : AccessKind) (length : Nat) (data : List Byte) : Bool :=
  match k with
  | .write => data.length != length
  | .read => !data.isEmpty

/-- The request is not well formed (R49). -/
def State.malformed (s : State) (r : Request) : Bool :=
  match r.kind, r.space with
  | some k, some sp =>
    !(Space.lengths sp).contains r.length || r.address % r.length != 0 || decide (Space.lastAddress sp < r.address) ||
      (s.inWindow sp r.address && decide (8 < r.length)) || dataFault k r.length r.data
  | _, _ => true

/-! ### Answers (R49, R52, R55) -/

/-- The read data of an answer given at once: 0xFF in every byte of a READ whose length is one of the MEM lengths; a WRITE, and a
request whose kind is neither, carries none (R49, R52; log 15). -/
def Request.fill (r : Request) : List Byte :=
  if r.kind = some .read ∧ (Space.lengths .mem).contains r.length then List.replicate r.length 0xFF else []

/-- The router answers at once: the completion is handed over, and nothing else changes (R52). -/
def State.answer (s : State) (r : Request) (st : Status) : State :=
  s.handOver ⟨r.tag, st, r.fill⟩

/-! ### The decision (R51) -/

/-- What the router does with a valid request. -/
inductive Verdict where
  /-- answered at once with this status -/
  | answer (st : Status)
  /-- served from the management window -/
  | window
  /-- queued for the port under the claim of the slot -/
  | queue (n : SlotNo) (p : Port) (a : Attributes)
  deriving DecidableEq, Repr

/-- The rows of R51 for a LIVE claim on a port, by the port's state. -/
def liveVerdict (n : SlotNo) (p : Port) (a : Attributes) (st : PortState) : Verdict :=
  match st with
  | .run | .waking | .realign => .queue n p a
  | .doze => .queue n p a
  | .sleep =>
    match a.wake with
    | .wake => .queue n p a
    | .nowake => .answer .asleep
  | .off | .listen | .greet | .resetting | .fault => .answer .linkDown

/-- The rows of R51 for a claim of a port, by the claim's state. -/
def phaseVerdict (n : SlotNo) (p : Port) (a : Attributes) (ph : Phase) (st : PortState) : Verdict :=
  match ph with
  | .draining _ => .answer .retired
  | .reshaping _ _ => .answer .moved
  | .orphaned => .answer .linkDown
  | .live => liveVerdict n p a st

/-- The rows of R51 for the claim of a slot other than 0. -/
def State.claimVerdict (s : State) (n : SlotNo) (c : Claim) : Verdict :=
  match c.owner with
  | .fixed => .window
  | .fence => .answer .fenced
  | .route p a => phaseVerdict n p a c.phase (s.port p).state
  | .board p _ _ a => phaseVerdict n p a c.phase (s.port p).state

/-- The router's decision (R51). -/
def State.route (s : State) (sp : Space) (address : Nat) : Verdict :=
  match s.lookup sp address with
  | none => .answer .unclaimed
  | some n =>
    if n = 0 then .window
    else
      match s.claim n with
      | none => .answer .unclaimed
      | some c => s.claimVerdict n c

/-! ### The window (R59) -/

/-- The first address of the window: the base of slot 0 (R4). -/
def State.windowStart (s : State) : Nat :=
  match s.claim 0 with
  | some c => c.base
  | none => windowBase s.winsel

/-- A window access (R59 to R61): it acts, and is answered OK. -/
def State.serveWindow (s : State) (r : Request) (k : AccessKind) : State :=
  match k with
  | .read => s.handOver ⟨r.tag, .ok, s.windowLoad (r.address - s.windowStart) r.length⟩
  | .write => (s.windowStore (r.address - s.windowStart) r.data).handOver ⟨r.tag, .ok, []⟩

/-! ### Creating an entry (R56 to R58) -/

/-- The access is a posted write: a WRITE to a claim whose posting is POSTED (R57). -/
def isPostedWrite (k : AccessKind) (a : Attributes) : Bool :=
  k == .write && a.posting == .posted

/-- The entry of a request (R56, R67). -/
def newEntry (r : Request) (k : AccessKind) (sp : Space) (n : SlotNo) (p : Port) (a : Attributes) : Entry where
  owes := if isPostedWrite k a then none else some r.tag
  posted := isPostedWrite k a
  kind := k
  space := sp
  address := r.address
  length := r.length
  data := r.data
  slot := n
  port := p
  width := a.width
  pieces := List.replicate (pieceCount r.length a.width) .notIssued
  issued := 0
  completed := 0
  status := .ok
  setBy := none
  buffer := match k with
    | .read => List.replicate r.length 0xFF
    | .write => []
  timer := none

/-- The table adds one to the slot's in-flight count (R5). -/
def State.increment (s : State) (n : SlotNo) : State :=
  match s.claim n with
  | none => s
  | some c => s.setClaim n (some { c with inFlight := c.inFlight + 1 })

/-- The creation of an entry (R56, R57): the entry in its place and in its port's issue list, the in-flight count, the doze idle
timer, the wake cause, and the OK of a posted write. -/
def State.createEntry (s : State) (place : EntryNo) (e : Entry) (tag : HostTag) : State :=
  let s1 := (s.setEntry place (some e)).increment e.slot
  let s2 := s1.modifyPort e.port fun x => { x with issueList := x.issueList ++ [place] }
  let s3 := (s2.restartIdle e.port).wakeCause e.port
  if e.posted then s3.handOver ⟨tag, .ok, []⟩ else s3

/-! ### Taking a request -/

/-- The access router takes a request whole (R49 to R59). -/
def State.takeRequest (s : State) (raw : HostRequest) : State :=
  let r := raw.decode
  if s.malformed r then s.answer r .malformed
  else if s.tagHeld r.tag then s.answer r .tagBusy
  else
    match r.kind, r.space with
    | some k, some sp =>
      match s.route sp r.address with
      | .answer st => s.answer r st
      | .window => s.serveWindow r k
      | .queue n p a =>
        match s.freePlace with
        | none => s.answer r .busy
        | some place => s.createEntry place (newEntry r k sp n p a) r.tag
    | _, _ => s.answer r .malformed

/-- The completions at or above which the router takes no request (R46). -/
def routerLimit : Nat := 64

/-- A request that arrives now waits (R46): others wait before it, or the completion list is too full for the router to take it. -/
def State.heldBack (s : State) : Bool :=
  !s.waiting.isEmpty || decide (routerLimit ≤ s.completions.length)

/-- The router takes the next waiting request if the link is UP and the completion list holds fewer than 64 (R46; log 4). -/
def State.routeNext (s : State) : State :=
  match s.hostLink with
  | .reset => s
  | .up =>
    if s.completions.length < routerLimit then
      match s.waiting with
      | [] => s
      | r :: rest => State.takeRequest { s with waiting := rest } r
    else s

/-- A request arrives on the host link: in RESET none does; in UP it waits behind those before it, and the router takes the first
of them if it can (R46; log 4). -/
def State.hostArrival (s : State) (r : HostRequest) : State :=
  match s.hostLink with
  | .reset => s
  | .up => State.routeNext { s with waiting := s.waiting ++ [r] }

/-- The host writes bytes of the window under a tag: the request for it arrives (R47, R59). -/
def State.hostWindowWrite (s : State) (tag : HostTag) (offset : Nat) (data : List Byte) : State :=
  s.hostArrival (memWrite tag (s.windowStart + offset) data)

end Sys2Proof.Machine
end

