-- ==== Sys2Proof/Machine/HostLink.lean ====
section
/-! DEFINITION. The commands of the power line and the host link: POWER_ON_RESET, HOST_LINK_UP, HOST_LINK_RESET, HOST_REQUEST,
COMPLETION_SEND. -/

namespace Sys2Proof.Machine

/-- The presence of a partner is a line the part does not drive: it stands as it was (log 7). -/
def State.keepPresence (s old : State) : State :=
  allPorts.foldl (fun s p => s.modifyPort p fun x => { x with present := (old.port p).present }) s

/-- POWER_ON_RESET (R4, R22, R46, R48, R90, R92, R174): the whole part takes its reset values under the sampled WINSEL. -/
def execPowerOnReset (winsel : BitVec 4) (s : State) : Host.Outcome State Fault Refusal :=
  .next { (State.powerOn winsel).keepPresence s with pending := s.pending }

/-- HOST_LINK_UP (R46): training completes; the link is UP. -/
def execHostLinkUp (s : State) : Host.Outcome State Fault Refusal :=
  .next { s with hostLink := .up }

/-- What a host link reset does to one entry (R64): a QUEUED entry owing an answer is freed with no completion, any other that owes
one is marked as owing none, and an entry that owes none is not touched. -/
def State.hostResetEntry (s : State) (n : EntryNo) (e : Entry) : State :=
  match e.owes with
  | none => s
  | some _ => if e.issued = 0 then s.freeEntry n e else s.setEntry n (some { e with owes := none })

/-- What a host link reset does to the pending access table (R64, R88), in ascending entry number. R64 reports each freeing as a
decrement, which by R5 settles a RESHAPING or DRAINING claim that it leaves with nothing in flight, where R184 says that a host link reset
changes no word of the window but the global flag word: the model follows R64 (log 23). No reached state shows the difference
(`PurgedLaw`): an entry that is QUEUED and owes an answer is bound to a claim at rest. -/
def State.hostResetEntries (s : State) : State :=
  allEntries.foldl (fun s n =>
    match s.entry n with
    | some e => s.hostResetEntry n e
    | none => s) s

/-- HOST_LINK_RESET (R46, R64, R65): the link drops from UP; requests still waiting on it are lost with it (log 4). A claim that a freed
entry settles is settled (log 23). -/
def execHostLinkReset (s : State) : Host.Outcome State Fault Refusal :=
  match s.hostLink with
  | .reset => .next s
  | .up =>
    .next ((State.hostResetEntries { s with hostLink := .reset, waiting := [] }).raiseGlobal .hostLinkReset)

/-- HOST_REQUEST (R46 to R59): a request arrives and the router takes it whole. -/
def execHostRequest (r : HostRequest) (s : State) : Host.Outcome State Fault Refusal :=
  .next (s.hostArrival r)

/-- COMPLETION_SEND (R48): in UP the head of the completion list is sent. -/
def execCompletionSend (s : State) : Host.Outcome State Fault Refusal :=
  match s.hostLink, s.completions with
  | .up, c :: rest => .next { s with completions := rest, hostSent := s.hostSent ++ [c] }
  | .up, [] => .next s
  | .reset, _ => .next s

end Sys2Proof.Machine
end

