-- ==== Sys2Proof/Machine/Notices.lean ====
section
/-! DEFINITION. Board notices (section 9.3): NOTICE. -/

namespace Sys2Proof.Machine

/-- NOTICE by the port's state (R97, R175). -/
def State.takeNotice (s : State) (p : Port) (code : Byte) : State :=
  match (s.port p).state with
  | .run =>
    match (s.port p).notice with
    | none => (s.modifyPort p fun x => { x with notice := some code }).raisePort p .notice
    | some _ => s.transmit p .noticeNak
  | .greet | .realign | .doze | .sleep | .waking => s.protocolError p
  | .off | .listen | .resetting | .fault => s

/-- NOTICE (R175). -/
def execNotice (p : Port) (seq : Byte) (code : Byte) (s : State) : Host.Outcome State Fault Refusal :=
  .next (s.receive p seq fun s => s.takeNotice p code)

end Sys2Proof.Machine
end

