-- ==== Sys2Proof/Machine/Power.lean ====
section
/-! DEFINITION. Holding, dozing, sleeping and waking (chapters 6 and 7): HOLD_TIMER_EXPIRY, DOZE_IDLE_TIMER_EXPIRY,
HANDSHAKE_ANSWER_TIMER_EXPIRY, the power messages, WAKE_EXIT_TIMER_EXPIRY. -/

namespace Sys2Proof.Machine

/-- HOLD_TIMER_EXPIRY (R141): taken only of a running timer. -/
def execHoldTimerExpiry (p : Port) (s : State) : Host.Outcome State Fault Refusal :=
  if (s.port p).holdTimer.isSome then
    .next (((s.retireWhere p fun c => c.isOrphanOf p).raisePort p .orphansDropped).modifyPort p fun x =>
      { x with holdTimer := none })
  else .next s

/-! ### The doze handshake -/

/-- No pending entry, an empty owed list and an empty claim receive list (R120, R126). -/
def State.portEmpty (s : State) (p : Port) : Bool :=
  !s.hasEntry p && (s.port p).owed.isEmpty && (s.port p).receiveList.isEmpty

/-- DOZE_REQ is sent (R120). -/
def State.sendDozeReq (s : State) (p : Port) : State :=
  (s.modifyPort p fun x =>
    { x with handshake := .dozeReq, dozeIdleTimer := none, answerTimer := some answerLimit }).transmit p .dozeReq

/-- DOZE_IDLE_TIMER_EXPIRY (R120): taken only of a running timer, whose port is then in RUN. -/
def execDozeIdleTimerExpiry (p : Port) (s : State) : Host.Outcome State Fault Refusal :=
  if (s.port p).state = .run ∧ (s.port p).dozeIdleTimer.isSome then
    if s.portEmpty p ∧ (s.port p).handshake = .none then .next (s.sendDozeReq p) else .next (s.restartIdle p)
  else .next s

/-- HANDSHAKE_ANSWER_TIMER_EXPIRY (R121): taken only of a running timer, whose port is then in RUN. -/
def execHandshakeAnswerTimerExpiry (p : Port) (s : State) : Host.Outcome State Fault Refusal :=
  if (s.port p).state = .run ∧ (s.port p).answerTimer.isSome then .next (s.enterRealign p) else .next s

/-- The handshake of the CD8 ends with the port kept in RUN (R122, R125): the doze idle timer restarts. -/
def State.endHandshake (s : State) (p : Port) : State :=
  (s.modifyPort p fun x => { x with handshake := .none, answerTimer := none }).restartIdle p

/-- The port enters DOZE or SLEEP (R122, R125, R126). -/
def State.enterPower (s : State) (p : Port) (st : PortState) : State :=
  s.modifyPort p fun x =>
    { x with state := st, handshake := .none, answerTimer := none, dozeIdleTimer := none }

/-- A port that enters DOZE or SLEEP with work waiting wakes at once (R122, R125, R128). -/
def State.wakeIfWork (s : State) (p : Port) : State :=
  if s.hasEntry p || !(s.port p).owed.isEmpty then s.wakeCause p else s

/-- DOZE_ACK by the port's state (R122, R133). -/
def State.takeDozeAck (s : State) (p : Port) : State :=
  if (s.port p).state = .run ∧ (s.port p).handshake = .dozeReq then (s.enterPower p .doze).wakeIfWork p else s

/-- DOZE_ACK (R97, R122). -/
def execDozeAck (p : Port) (seq : Byte) (s : State) : Host.Outcome State Fault Refusal :=
  .next (s.receive p seq fun s => s.takeDozeAck p)

/-- DOZE_NAK by the port's state (R122, R133). -/
def State.takeDozeNak (s : State) (p : Port) : State :=
  if (s.port p).state = .run ∧ (s.port p).handshake = .dozeReq then s.endHandshake p else s

/-- DOZE_NAK (R97, R122). -/
def execDozeNak (p : Port) (seq : Byte) (s : State) : Host.Outcome State Fault Refusal :=
  .next (s.receive p seq fun s => s.takeDozeNak p)

/-! ### Sleep -/

/-- A SLEEP_REQ in RUN with nothing outstanding (R126): SLEEP_ACK and SLEEP for an empty port, SLEEP_NAK for any other. -/
def State.judgeSleepReq (s : State) (p : Port) : State :=
  if s.portEmpty p then (s.transmit p .sleepAck).enterPower p .sleep else s.transmit p .sleepNak

/-- SLEEP_REQ by the port's state (R126); in GREET and REALIGN it is discarded (R97). -/
def State.takeSleepReq (s : State) (p : Port) : State :=
  match (s.port p).state with
  | .run =>
    match (s.port p).handshake with
    | .none => s.judgeSleepReq p
    | .dozeReq => (s.endHandshake p).judgeSleepReq p
    | .sleepReq => s.transmit p .sleepNak
  | .doze => (s.transmit p .sleepAck).enterPower p .sleep
  | .sleep => s.transmit p .sleepAck
  | .waking => s.transmit p .sleepNak
  | .off | .listen | .greet | .realign | .resetting | .fault => s

/-- SLEEP_REQ (R126). -/
def execSleepReq (p : Port) (seq : Byte) (s : State) : Host.Outcome State Fault Refusal :=
  .next (s.receive p seq fun s => s.takeSleepReq p)

/-- SLEEP_ACK by the port's state (R125, R133). -/
def State.takeSleepAck (s : State) (p : Port) : State :=
  if (s.port p).state = .run ∧ (s.port p).handshake = .sleepReq then
    ((s.enterPower p .sleep).reportEnd .portSleep p.val .done).wakeIfWork p
  else s

/-- SLEEP_ACK (R97, R125). -/
def execSleepAck (p : Port) (seq : Byte) (s : State) : Host.Outcome State Fault Refusal :=
  .next (s.receive p seq fun s => s.takeSleepAck p)

/-- SLEEP_NAK by the port's state (R125, R133). -/
def State.takeSleepNak (s : State) (p : Port) : State :=
  if (s.port p).state = .run ∧ (s.port p).handshake = .sleepReq then
    (s.endHandshake p).reportEnd .portSleep p.val .boardDeclined
  else s

/-- SLEEP_NAK (R97, R125). -/
def execSleepNak (p : Port) (seq : Byte) (s : State) : Host.Outcome State Fault Refusal :=
  .next (s.receive p seq fun s => s.takeSleepNak p)

/-! ### Wake -/

/-- The wake ends in RUN (R129): a running PORT_WAKE ends DONE. -/
def State.endWake (s : State) (p : Port) : State :=
  ((s.modifyPort p fun x => { x with wakeExitTimer := none }).enterRun p).reportEnd .portWake p.val .done

/-- WAKE by the port's state (R131); in GREET and REALIGN it is discarded (R97). -/
def State.takeWake (s : State) (p : Port) : State :=
  match (s.port p).state with
  | .doze | .sleep => (s.transmit p .wakeAck).enterRun p
  | .waking => s.endWake p
  | .run => s.transmit p .wakeAck
  | .off | .listen | .greet | .realign | .resetting | .fault => s

/-- WAKE (R131). -/
def execWake (p : Port) (seq : Byte) (s : State) : Host.Outcome State Fault Refusal :=
  .next (s.receive p seq fun s => s.takeWake p)

/-- WAKE_ACK by the port's state (R129, R133). -/
def State.takeWakeAck (s : State) (p : Port) : State :=
  if (s.port p).state = .waking then s.endWake p else s

/-- WAKE_ACK (R97, R129). -/
def execWakeAck (p : Port) (seq : Byte) (s : State) : Host.Outcome State Fault Refusal :=
  .next (s.receive p seq fun s => s.takeWakeAck p)

/-- A wake failure (R87, R130): the entries end WAKE_FAIL, a running PORT_WAKE ends WAKE_FAILED, the port enters REALIGN. -/
def State.wakeFailure (s : State) (p : Port) : State :=
  ((s.endEntries (fun e => e.port == p) .wakeFail).reportEnd .portWake p.val .wakeFailed).enterRealign p

/-- WAKE_EXIT_TIMER_EXPIRY (R130): taken only of a running timer, whose port is then in WAKING. -/
def execWakeExitTimerExpiry (p : Port) (s : State) : Host.Outcome State Fault Refusal :=
  if (s.port p).state = .waking ∧ (s.port p).wakeExitTimer.isSome then .next (s.wakeFailure p) else .next s

end Sys2Proof.Machine
end

