-- ==== Sys2Proof/Machine/Realign.lean ====
section
/-! DEFINITION. Link errors and realign (section 5.5, R113): BAD_CHECK_MESSAGE, UNKNOWN_MESSAGE, ALIGN_ACK, ATTEMPT_TIMER_EXPIRY,
RESET_SIGNALLING_TIMER_EXPIRY. -/

namespace Sys2Proof.Machine

/-- BAD_CHECK_MESSAGE (R102, R105, R180). -/
def execBadCheckMessage (p : Port) (s : State) : Host.Outcome State Fault Refusal :=
  .next (s.badCheck p)

/-- UNKNOWN_MESSAGE (R95, R181): discarded with PROTOCOL. -/
def execUnknownMessage (p : Port) (seq : Byte) (s : State) : Host.Outcome State Fault Refusal :=
  .next (s.receive p seq fun s => s.protocolError p)

/-- The return to RUN (R107): a running PORT_RETRAIN ends DONE. -/
def State.returnToRun (s : State) (p : Port) (seq : Byte) : State :=
  ((s.modifyPort p fun x =>
    { x with attemptTimer := none, realignAttempts := 0, recvSeq := seq + 1, sendSeq := 1 }).enterRun p).reportEnd
      .portRetrain p.val .done

/-- ALIGN_ACK by the port state (R97, R105). -/
def State.takeAlignAck (s : State) (p : Port) (seq : Byte) (identity : Word) : State :=
  match (s.port p).state with
  | .realign => if (s.port p).identity = some identity then s.returnToRun p seq else s.linkLoss p
  | .off | .listen | .greet | .run | .doze | .sleep | .waking | .resetting | .fault => s

/-- ALIGN_ACK (R97, R105, R107). -/
def execAlignAck (p : Port) (seq : Byte) (identity : Word) (s : State) : Host.Outcome State Fault Refusal :=
  .next (s.receive p seq fun s => s.takeAlignAck p seq identity)

/-- ATTEMPT_TIMER_EXPIRY (R105): taken only of a running timer. -/
def execAttemptTimerExpiry (p : Port) (s : State) : Host.Outcome State Fault Refusal :=
  if (s.port p).state = .realign ∧ (s.port p).attemptTimer.isSome then .next (s.attemptFailure p) else .next s

/-- RESET_SIGNALLING_TIMER_EXPIRY (R113): the port enters LISTEN and PORT_RESET ends DONE; no COMPLETE of the session that it ended is
stray after it (log 22). -/
def execResetSignallingTimerExpiry (p : Port) (s : State) : Host.Outcome State Fault Refusal :=
  if (s.port p).state = .resetting ∧ (s.port p).resetTimer.isSome then
    .next ((s.modifyPort p fun x =>
      { x with resetTimer := none, state := .listen, endedTags := Vector.replicate 8 false }).reportEnd .portReset p.val .done)
  else .next s

end Sys2Proof.Machine
end

