-- ==== Sys2Proof/Machine/WindowWrites.lean ====
section
/-! DEFINITION. The commands that are window writes: each is a host WRITE that passes the router whole (R49 to R52, R59, R61; log 12),
to the register its row names. An issue write runs the command that the command record names; the row it stands under is the one of
that command (R153, R154; log 11). -/

namespace Sys2Proof.Machine

/-- WINDOW_WRITE (R61): a write of bytes of the window at an offset. -/
def execWindowWrite (tag : HostTag) (offset : BitVec 12) (data : List Byte) (s : State) : Host.Outcome State Fault Refusal :=
  .next (s.hostWindowWrite tag offset.toNat data)

/-- FLAG_CLEAR (R171): a write of bytes of a flag word. -/
def execFlagClear (tag : HostTag) (target : FlagWord) (l : WordLane) (s : State) : Host.Outcome State Fault Refusal :=
  .next (s.hostWindowWrite tag (target.offset + l.offset) l.bytes)

/-- MASK_WRITE (R172): a write of bytes of the mask word. -/
def execMaskWrite (tag : HostTag) (l : WordLane) (s : State) : Host.Outcome State Fault Refusal :=
  .next (s.hostWindowWrite tag (0x104 + l.offset) l.bytes)

/-- NOTICE_ACKNOWLEDGE (R177): a write of bytes of the notice-acknowledge register. -/
def execNoticeAcknowledge (tag : HostTag) (l : WordLane) (s : State) : Host.Outcome State Fault Refusal :=
  .next (s.hostWindowWrite tag (0x144 + l.offset) l.bytes)

/-- An issue write under the row of `c` (`none` for BAD_COMMAND). One that must wait on the host link joins the requests that wait,
and the record that the router finds when it takes the write says which command it is (R46, R153). One that is taken at once is, while
the slot is BUSY, every row's overrun (R153); otherwise it is the row of the command that the record's code names, and under another
row it is not the happening that is taken (log 11). -/
def State.issueRow (s : State) (c : Option HostCommand) (tag : HostTag) (w : IssueWrite) : State :=
  if s.heldBack = true ∨ s.slotState = .busy ∨ HostCommand.ofCode s.command.code = c then s.hostWindowWrite tag w.offset w.bytes
  else s

/-- BAD_COMMAND (R154): the issue write of a code that names no command, by an issue write. -/
def execBadCommand (tag : HostTag) (w : IssueWrite) (s : State) : Host.Outcome State Fault Refusal :=
  .next (s.issueRow none tag w)

/-- HOST_CLAIM (R158), by an issue write. -/
def execHostClaim (tag : HostTag) (w : IssueWrite) (s : State) : Host.Outcome State Fault Refusal :=
  .next (s.issueRow (some .hostClaim) tag w)

/-- HOST_RETIRE (R159), by an issue write. -/
def execHostRetire (tag : HostTag) (w : IssueWrite) (s : State) : Host.Outcome State Fault Refusal :=
  .next (s.issueRow (some .hostRetire) tag w)

/-- REVOKE (R160), by an issue write. -/
def execRevoke (tag : HostTag) (w : IssueWrite) (s : State) : Host.Outcome State Fault Refusal :=
  .next (s.issueRow (some .revoke) tag w)

/-- READ_CLAIM (R161), by an issue write. -/
def execReadClaim (tag : HostTag) (w : IssueWrite) (s : State) : Host.Outcome State Fault Refusal :=
  .next (s.issueRow (some .readClaim) tag w)

/-- FIND (R162), by an issue write. -/
def execFind (tag : HostTag) (w : IssueWrite) (s : State) : Host.Outcome State Fault Refusal :=
  .next (s.issueRow (some .find) tag w)

/-- PORT_ENABLE (R114), by an issue write. -/
def execPortEnable (tag : HostTag) (w : IssueWrite) (s : State) : Host.Outcome State Fault Refusal :=
  .next (s.issueRow (some .portEnable) tag w)

/-- PORT_DISABLE (R112), by an issue write. -/
def execPortDisable (tag : HostTag) (w : IssueWrite) (s : State) : Host.Outcome State Fault Refusal :=
  .next (s.issueRow (some .portDisable) tag w)

/-- PORT_RESET (R113), by an issue write. -/
def execPortReset (tag : HostTag) (w : IssueWrite) (s : State) : Host.Outcome State Fault Refusal :=
  .next (s.issueRow (some .portReset) tag w)

/-- PORT_RETRAIN (R114), by an issue write. -/
def execPortRetrain (tag : HostTag) (w : IssueWrite) (s : State) : Host.Outcome State Fault Refusal :=
  .next (s.issueRow (some .portRetrain) tag w)

/-- PORT_SLEEP (R124), by an issue write. -/
def execPortSleep (tag : HostTag) (w : IssueWrite) (s : State) : Host.Outcome State Fault Refusal :=
  .next (s.issueRow (some .portSleep) tag w)

/-- PORT_WAKE (R132), by an issue write. -/
def execPortWake (tag : HostTag) (w : IssueWrite) (s : State) : Host.Outcome State Fault Refusal :=
  .next (s.issueRow (some .portWake) tag w)

/-- SET_QUOTA (R165), by an issue write. -/
def execSetQuota (tag : HostTag) (w : IssueWrite) (s : State) : Host.Outcome State Fault Refusal :=
  .next (s.issueRow (some .setQuota) tag w)

/-- SET_HOLD (R166), by an issue write. -/
def execSetHold (tag : HostTag) (w : IssueWrite) (s : State) : Host.Outcome State Fault Refusal :=
  .next (s.issueRow (some .setHold) tag w)

/-- SET_POOL (R167), by an issue write. -/
def execSetPool (tag : HostTag) (w : IssueWrite) (s : State) : Host.Outcome State Fault Refusal :=
  .next (s.issueRow (some .setPool) tag w)

/-- SET_TIMING (R168), by an issue write. -/
def execSetTiming (tag : HostTag) (w : IssueWrite) (s : State) : Host.Outcome State Fault Refusal :=
  .next (s.issueRow (some .setTiming) tag w)

end Sys2Proof.Machine
end

