-- ==== Sys2Proof/Machine/Dispatch.lean ====
section
/-! DEFINITION. The meaning of each command: one arm per constructor of `Instr`, each one direct call of its definition. -/

namespace Sys2Proof.Machine

/-- A command's effect on everything but the queue. -/
def exec (i : Instr) (s : State) : Host.Outcome State Fault Refusal :=
  match i with
  -- power and host link
  | .powerOnReset winsel => Sys2Proof.Machine.execPowerOnReset winsel s
  | .hostLinkUp => Sys2Proof.Machine.execHostLinkUp s
  | .hostLinkReset => Sys2Proof.Machine.execHostLinkReset s
  | .hostRequest r => Sys2Proof.Machine.execHostRequest r s
  | .completionSend => Sys2Proof.Machine.execCompletionSend s
  -- window writes
  | .windowWrite tag offset data => Sys2Proof.Machine.execWindowWrite tag offset data s
  | .flagClear tag target l => Sys2Proof.Machine.execFlagClear tag target l s
  | .maskWrite tag l => Sys2Proof.Machine.execMaskWrite tag l s
  | .noticeAcknowledge tag l => Sys2Proof.Machine.execNoticeAcknowledge tag l s
  -- issue writes: the host commands
  | .badCommand tag w => Sys2Proof.Machine.execBadCommand tag w s
  | .hostClaim tag w => Sys2Proof.Machine.execHostClaim tag w s
  | .hostRetire tag w => Sys2Proof.Machine.execHostRetire tag w s
  | .revoke tag w => Sys2Proof.Machine.execRevoke tag w s
  | .readClaim tag w => Sys2Proof.Machine.execReadClaim tag w s
  | .find tag w => Sys2Proof.Machine.execFind tag w s
  | .portEnable tag w => Sys2Proof.Machine.execPortEnable tag w s
  | .portDisable tag w => Sys2Proof.Machine.execPortDisable tag w s
  | .portReset tag w => Sys2Proof.Machine.execPortReset tag w s
  | .portRetrain tag w => Sys2Proof.Machine.execPortRetrain tag w s
  | .portSleep tag w => Sys2Proof.Machine.execPortSleep tag w s
  | .portWake tag w => Sys2Proof.Machine.execPortWake tag w s
  | .setQuota tag w => Sys2Proof.Machine.execSetQuota tag w s
  | .setHold tag w => Sys2Proof.Machine.execSetHold tag w s
  | .setPool tag w => Sys2Proof.Machine.execSetPool tag w s
  | .setTiming tag w => Sys2Proof.Machine.execSetTiming tag w s
  -- presence and greeting
  | .presenceAppears p => Sys2Proof.Machine.execPresenceAppears p s
  | .presenceLost p => Sys2Proof.Machine.execPresenceLost p s
  | .greetEntry p => Sys2Proof.Machine.execGreetEntry p s
  | .hello p seq m => Sys2Proof.Machine.execHello p seq m s
  | .greetTimerExpiry p => Sys2Proof.Machine.execGreetTimerExpiry p s
  -- link errors and realign
  | .badCheckMessage p => Sys2Proof.Machine.execBadCheckMessage p s
  | .unknownMessage p seq => Sys2Proof.Machine.execUnknownMessage p seq s
  | .alignAck p seq identity => Sys2Proof.Machine.execAlignAck p seq identity s
  | .attemptTimerExpiry p => Sys2Proof.Machine.execAttemptTimerExpiry p s
  | .resetSignallingTimerExpiry p => Sys2Proof.Machine.execResetSignallingTimerExpiry p s
  -- claim messages
  | .claim p seq m => Sys2Proof.Machine.execClaim p seq m s
  | .reshape p seq m => Sys2Proof.Machine.execReshape p seq m s
  | .release p seq h => Sys2Proof.Machine.execRelease p seq h s
  | .takeClaim p => Sys2Proof.Machine.execTakeClaim p s
  | .takeReshape p => Sys2Proof.Machine.execTakeReshape p s
  | .takeRelease p => Sys2Proof.Machine.execTakeRelease p s
  | .owedMessageSend p => Sys2Proof.Machine.execOwedMessageSend p s
  -- accesses
  | .pieceIssue p => Sys2Proof.Machine.execPieceIssue p s
  | .complete p seq m => Sys2Proof.Machine.execComplete p seq m s
  | .completionTimerExpiry n => Sys2Proof.Machine.execCompletionTimerExpiry n s
  -- holding and power
  | .holdTimerExpiry p => Sys2Proof.Machine.execHoldTimerExpiry p s
  | .dozeIdleTimerExpiry p => Sys2Proof.Machine.execDozeIdleTimerExpiry p s
  | .handshakeAnswerTimerExpiry p => Sys2Proof.Machine.execHandshakeAnswerTimerExpiry p s
  | .dozeAck p seq => Sys2Proof.Machine.execDozeAck p seq s
  | .dozeNak p seq => Sys2Proof.Machine.execDozeNak p seq s
  | .sleepReq p seq => Sys2Proof.Machine.execSleepReq p seq s
  | .sleepAck p seq => Sys2Proof.Machine.execSleepAck p seq s
  | .sleepNak p seq => Sys2Proof.Machine.execSleepNak p seq s
  | .wake p seq => Sys2Proof.Machine.execWake p seq s
  | .wakeAck p seq => Sys2Proof.Machine.execWakeAck p seq s
  | .wakeExitTimerExpiry p => Sys2Proof.Machine.execWakeExitTimerExpiry p s
  -- notices
  | .notice p seq code => Sys2Proof.Machine.execNotice p seq code s

end Sys2Proof.Machine
end

