-- ==== Sys2Proof/Machine/Frames.lean ====
section
/-! DEFINITION. The bytes on the links (chapter 10): the check value of R180, the frame of every message the CD8 sends, which command a
delivered board message is by R180 and R181, the frame a board sends for each of its messages, and the bytes of host requests and
completions (R179). -/

namespace Sys2Proof.Machine

/-! ### The check value (R180) -/

/-- One bit of the cyclic redundancy value: the generator x^16 + x^12 + x^5 + 1 in least-significant-first order, 0x8408.
PRESUMED (log 14): the register is read out in that same order. -/
def crcBit (r : BitVec 16) : BitVec 16 :=
  if r.getLsbD 0 then (r >>> 1) ^^^ 0x8408 else r >>> 1

/-- One byte enters least significant bit first. -/
def crcByte (r : BitVec 16) (b : Byte) : BitVec 16 :=
  crcBit (crcBit (crcBit (crcBit (crcBit (crcBit (crcBit (crcBit (r ^^^ b.setWidth 16))))))))

/-- The check value of the bytes in the order they are sent, starting from 0xFFFF, taken without inversion (R180). -/
def checkValue (bytes : List Byte) : BitVec 16 :=
  bytes.foldl crcByte 0xFFFF

/-- The check as sent, least significant byte first (section 10.2). -/
def checkBytes (bytes : List Byte) : List Byte :=
  [(checkValue bytes).setWidth 8, (checkValue bytes >>> 8).setWidth 8]

/-! ### Frames (section 10.2) -/

/-- A message: a header with class and type in one byte, payload length, sequence number, a reserved zero; the payload; the check. -/
def frame (kind : Byte) (seq : Byte) (payload : List Byte) : List Byte :=
  let body := kind :: byteOf payload.length :: seq :: 0 :: payload
  body ++ checkBytes body

/-- The class and type byte of a message the CD8 sends (section 10.2): class in bits 6 and 7, type in bits 0 to 5. -/
def OutMessage.kind : OutMessage → Byte
  | .welcome _ _ _ => 0x42
  | .align _ => 0x43
  | .dozeReq => 0x48
  | .sleepReq => 0x4C
  | .sleepAck => 0x4D
  | .sleepNak => 0x4E
  | .wake => 0x50
  | .wakeAck => 0x51
  | .noticeNak => 0x59
  | .owed .noticeAck => 0x5A
  | .owed (.grant _ _ _ _ _) => 0x88
  | .owed (.refuse _ _) => 0x89
  | .owed (.released _) => 0x8A
  | .owed (.revoked _) => 0x8B
  | .access _ _ _ _ _ _ => 0xC1

/-- The payload of a message the CD8 sends (section 10.3); every zero field is sent as zero (R182). -/
def OutMessage.payload : OutMessage → List Byte
  | .welcome p quota resumed => [byteOf p.val, byteOf quota, byteOf resumed, 0]
  | .align p => [byteOf p.val, 0, 0, 0]
  | .dozeReq | .sleepReq | .sleepAck | .sleepNak | .wake | .wakeAck | .noticeNak => []
  | .owed .noticeAck => []
  | .owed (.grant h n sp base size) =>
    [byteOf h.val, byteOf n.val, byteOf sp.code, 0] ++ wordBytes (wordOf base) ++ wordBytes (wordOf size)
  | .owed (.refuse h r) => [byteOf h.val, byteOf r.code, 0, 0]
  | .owed (.released h) => [byteOf h.val, 0, 0, 0]
  | .owed (.revoked h) => [byteOf h.val, 0, 0, 0]
  | .access tag k sp address width data =>
    [byteOf tag.val, byteOf (k.code + 4 * sp.code), byteOf width, 0] ++ wordBytes (wordOf address) ++ data

/-- The bytes the CD8 sends for a message, with the check computed by the same method (R180). -/
def SentMessage.bytes (m : SentMessage) : List Byte :=
  frame m.message.kind m.seq m.message.payload

/-! ### Board messages (section 10.3) -/

/-- The fields of a CLAIM and a RESHAPE: handle in bits 0 to 3 of byte 0, options in byte 3 (section 10.3). -/
def handleOf (b : Byte) : Handle := ⟨b.toNat % 16, Nat.mod_lt _ (by decide)⟩

def optionBits (any posted nowake : Bool) : Byte :=
  (if any then 1 else 0) ||| (if posted then 2 else 0) ||| (if nowake then 4 else 0)

/-- The command a payload of good length is, by class and type; none where the type is not known or the length bad (R181). -/
def boardCommand (p : Port) (kind seq : Byte) (payload : List Byte) : Option Instr :=
  match kind.toNat with
  | 0x41 =>
    match payload with
    | [i0, i1, i2, i3, credit, options, revision, _] =>
      some (.hello p seq ⟨wordOfBytes [i0, i1, i2, i3], credit, options.getLsbD 0, revision⟩)
    | _ => none
  | 0x44 =>
    match payload with
    | [i0, i1, i2, i3] => some (.alignAck p seq (wordOfBytes [i0, i1, i2, i3]))
    | _ => none
  | 0x49 => if payload.isEmpty then some (.dozeAck p seq) else none
  | 0x4A => if payload.isEmpty then some (.dozeNak p seq) else none
  | 0x4C => if payload.isEmpty then some (.sleepReq p seq) else none
  | 0x4D => if payload.isEmpty then some (.sleepAck p seq) else none
  | 0x4E => if payload.isEmpty then some (.sleepNak p seq) else none
  | 0x50 => if payload.isEmpty then some (.wake p seq) else none
  | 0x51 => if payload.isEmpty then some (.wakeAck p seq) else none
  | 0x58 =>
    match payload with
    | [code, _, _, _] => some (.notice p seq code)
    | _ => none
  | 0x81 =>
    match payload with
    | [h, sp, width, o, b0, b1, b2, b3, z0, z1, z2, z3] =>
      some (.claim p seq ⟨handleOf h, sp, width, o.getLsbD 0, o.getLsbD 1, o.getLsbD 2, wordOfBytes [b0, b1, b2, b3],
        wordOfBytes [z0, z1, z2, z3]⟩)
    | _ => none
  | 0x82 =>
    match payload with
    | [h, _, _, o, b0, b1, b2, b3, z0, z1, z2, z3] =>
      some (.reshape p seq ⟨handleOf h, o.getLsbD 0, wordOfBytes [b0, b1, b2, b3], wordOfBytes [z0, z1, z2, z3]⟩)
    | _ => none
  | 0x83 =>
    match payload with
    | [h, _, _, _] => some (.release p seq (handleOf h))
    | _ => none
  | 0xC2 =>
    match payload with
    | tag :: result :: count :: _ :: data =>
      if data.length = count.toNat ∧ data.length ≤ 8 then some (.complete p seq ⟨tag, result, data⟩) else none
    | _ => none
  | _ => none

/-- A message whose check is right, by its type and length (R181): the payload length byte must equal the bytes delivered. -/
def judgeBody (p : Port) (body : List Byte) : Instr :=
  match body with
  | kind :: length :: seq :: _ :: payload =>
    if payload.length = length.toNat then (boardCommand p kind seq payload).getD (.unknownMessage p seq)
    else .unknownMessage p seq
  | _ => .badCheckMessage p

/-- The command that a delivered message is (R180, R181): fewer than 6 bytes or a check that differs is a wrong check value. -/
def judgeFrame (p : Port) (bytes : List Byte) : Instr :=
  if bytes.length < 6 then .badCheckMessage p
  else
    let body := bytes.take (bytes.length - 2)
    if bytes.drop (bytes.length - 2) = checkBytes body then judgeBody p body else .badCheckMessage p

/-- The command that bytes delivered on a port's link are, if its receiver is open when they are delivered (R95). The COMPLETE that
row 3 of R89 has taken after its session ended was delivered before (log 22). -/
def State.arrival (s : State) (p : Port) (bytes : List Byte) : Option Instr :=
  if (s.port p).state.receiverOpen then some (judgeFrame p bytes) else none

/-- The frame a board sends for each of its messages (sections 10.2, 10.3); no other command is a board message. -/
def boardFrame : Instr → Option (List Byte)
  | .hello _ seq m =>
    some (frame 0x41 seq (wordBytes m.identity ++ [m.credit, if m.dozeCapable then 1 else 0, m.revision, 0]))
  | .alignAck _ seq identity => some (frame 0x44 seq (wordBytes identity))
  | .dozeAck _ seq => some (frame 0x49 seq [])
  | .dozeNak _ seq => some (frame 0x4A seq [])
  | .sleepReq _ seq => some (frame 0x4C seq [])
  | .sleepAck _ seq => some (frame 0x4D seq [])
  | .sleepNak _ seq => some (frame 0x4E seq [])
  | .wake _ seq => some (frame 0x50 seq [])
  | .wakeAck _ seq => some (frame 0x51 seq [])
  | .notice _ seq code => some (frame 0x58 seq [code, 0, 0, 0])
  | .claim _ seq m =>
    some (frame 0x81 seq ([byteOf m.handle.val, m.spaceCode, m.width, optionBits m.any m.posted m.nowake] ++ wordBytes m.base ++
      wordBytes m.size))
  | .reshape _ seq m =>
    some (frame 0x82 seq ([byteOf m.handle.val, 0, 0, optionBits m.any false false] ++ wordBytes m.base ++ wordBytes m.size))
  | .release _ seq h => some (frame 0x83 seq [byteOf h.val, 0, 0, 0])
  | .complete _ seq m => some (frame 0xC2 seq (m.tag :: m.result :: byteOf m.data.length :: 0 :: m.data))
  | .powerOnReset _ | .hostLinkUp | .hostLinkReset | .hostRequest _ | .completionSend | .windowWrite _ _ _ | .flagClear _ _ _
  | .maskWrite _ _ | .noticeAcknowledge _ _ | .badCommand _ _ | .hostClaim _ _ | .hostRetire _ _ | .revoke _ _ | .readClaim _ _
  | .find _ _ | .portEnable _ _ | .portDisable _ _ | .portReset _ _ | .portRetrain _ _ | .portSleep _ _ | .portWake _ _
  | .setQuota _ _ | .setHold _ _ | .setPool _ _ | .setTiming _ _ | .presenceAppears _ | .presenceLost _ | .greetEntry _
  | .greetTimerExpiry _ | .badCheckMessage _ | .unknownMessage _ _ | .attemptTimerExpiry _ | .resetSignallingTimerExpiry _
  | .takeClaim _ | .takeReshape _ | .takeRelease _ | .owedMessageSend _ | .pieceIssue _ | .completionTimerExpiry _
  | .holdTimerExpiry _ | .dozeIdleTimerExpiry _ | .handshakeAnswerTimerExpiry _ | .wakeExitTimerExpiry _ => none

/-- The port a board message arrives on. -/
def boardPort : Instr → Option Port
  | .hello p _ _ | .alignAck p _ _ | .dozeAck p _ | .dozeNak p _ | .sleepReq p _ | .sleepAck p _ | .sleepNak p _ | .wake p _
  | .wakeAck p _ | .notice p _ _ | .claim p _ _ | .reshape p _ _ | .release p _ _ | .complete p _ _ => some p
  | .powerOnReset _ | .hostLinkUp | .hostLinkReset | .hostRequest _ | .completionSend | .windowWrite _ _ _ | .flagClear _ _ _
  | .maskWrite _ _ | .noticeAcknowledge _ _ | .badCommand _ _ | .hostClaim _ _ | .hostRetire _ _ | .revoke _ _ | .readClaim _ _
  | .find _ _ | .portEnable _ _ | .portDisable _ _ | .portReset _ _ | .portRetrain _ _ | .portSleep _ _ | .portWake _ _
  | .setQuota _ _ | .setHold _ _ | .setPool _ _ | .setTiming _ _ | .presenceAppears _ | .presenceLost _ | .greetEntry _
  | .greetTimerExpiry _ | .badCheckMessage _ | .unknownMessage _ _ | .attemptTimerExpiry _ | .resetSignallingTimerExpiry _
  | .takeClaim _ | .takeReshape _ | .takeRelease _ | .owedMessageSend _ | .pieceIssue _ | .completionTimerExpiry _
  | .holdTimerExpiry _ | .dozeIdleTimerExpiry _ | .handshakeAnswerTimerExpiry _ | .wakeExitTimerExpiry _ => none

/-! ### The host link (R179) -/

/-- The request whose bytes the host link delivers; a request too short to hold its address field is none (log 18). -/
def HostRequest.ofBytes : List Byte → Option HostRequest
  | b0 :: b1 :: b2 :: b3 :: a0 :: a1 :: a2 :: a3 :: data => some ⟨b0, b1, b2, b3, wordOfBytes [a0, a1, a2, a3], data⟩
  | _ => none

def HostRequest.bytes (r : HostRequest) : List Byte :=
  [r.byte0, r.byte1, r.byte2, r.byte3] ++ wordBytes r.address ++ r.data

/-- The bytes of a completion (R179). -/
def Completion.bytes (c : Completion) : List Byte :=
  [c.tag.setWidth 8, byteOf c.status.code, byteOf c.data.length, 0] ++ c.data

end Sys2Proof.Machine
end

