-- ==== Sys2Proof/Safety.lean ====
section
/-! DEFINITION. What counts as a legal state of the CD8, in the terms of the manual's laws. Each law is a decidable predicate of one
state; the statements about steps and the provers' invariants use these names. -/

namespace Sys2Proof.Machine

/-- ATTN is driven as R173 says. -/
abbrev AttnFollows (s : State) : Prop :=
  s.attn = s.attnCondition

/-- The law of R4: slot 0 holds the LIVE FIXED claim of the window, nothing in flight, and no other slot a FIXED claim. -/
abbrev WindowLaw (s : State) : Prop :=
  s.claim 0 = some (windowClaim s.winsel) ∧
    ∀ n : SlotNo, n ≠ 0 → ∀ c, s.claim n = some c → c.owner ≠ .fixed

/-- The law of R14: no two claims of one space have intersecting occupied extents. -/
abbrev OverlapLaw (s : State) : Prop :=
  ∀ m n : SlotNo, m ≠ n → ∀ c d, s.claim m = some c → s.claim n = some d → c.space = d.space →
    ∀ x ∈ c.extents, ∀ y ∈ d.extents, extentsMeet x y = false

/-- How many BOARD claims of the port are not FREE (R19). -/
def State.boardClaims (s : State) (p : Port) : Nat :=
  allSlots.countP fun n =>
    match s.claim n with
    | some c => c.isBoardOf p
    | none => false

/-- R19: the claim count of a port is the number of its BOARD claims, and at most its quota. -/
abbrev QuotaLaw (s : State) : Prop :=
  ∀ p : Port, (s.port p).claimCount = s.boardClaims p ∧ s.boardClaims p ≤ (s.port p).quota

/-- The law of R3: no two BOARD claims of one port carry the same handle. -/
abbrev HandleLaw (s : State) : Prop :=
  ∀ m n : SlotNo, m ≠ n → ∀ c d, s.claim m = some c → s.claim n = some d →
    ∀ p h, c.carries p h = true → d.carries p h = false

/-- The ranges of the settings (section 8.5) and of the two pools (R16). -/
abbrev SettingsLaw (s : State) : Prop :=
  (100 ≤ s.completionTimeout ∧ s.completionTimeout ≤ 65000) ∧ s.dozeIdleTime ≤ 65000 ∧
    (1 ≤ s.realignLimit ∧ s.realignLimit ≤ 7) ∧ poolGood .mem s.memPool = true ∧ poolGood .io s.ioPool = true ∧
    ∀ p : Port, (s.port p).quota ≤ 16 ∧ (s.port p).holdTime ≤ 60000

/-- How many pending entries are bound to the slot (R5). -/
def State.boundEntries (s : State) (n : SlotNo) : Nat :=
  allEntries.countP fun k =>
    match s.entry k with
    | some e => e.slot == n
    | none => false

/-- The law of R5: every claim's in-flight count is the number of entries bound to it, and no entry is bound to a FREE slot. -/
abbrev InFlightLaw (s : State) : Prop :=
  ∀ n : SlotNo,
    match s.claim n with
    | some c => c.inFlight = s.boundEntries n
    | none => s.boundEntries n = 0

/-- The law of R66: no two entries that owe an answer hold the same host tag. -/
abbrev TagLaw (s : State) : Prop :=
  ∀ j k : EntryNo, j ≠ k → ∀ d e, s.entry j = some d → s.entry k = some e → d.owes = e.owes → d.owes = none

/-- How many entries owe an answer (R48). -/
def State.owingEntries (s : State) : Nat :=
  allEntries.countP fun k =>
    match s.entry k with
    | some e => e.owes.isSome
    | none => false

/-- R48: the completions in the list and the answers still owed never exceed the list's room for 96. -/
abbrev CompletionRoom (s : State) : Prop :=
  s.completions.length + s.owingEntries ≤ 96

/-- R117: a handshake is outstanding only in RUN. -/
abbrev HandshakeLaw (s : State) : Prop :=
  ∀ p : Port, (s.port p).handshake ≠ .none → (s.port p).state = .run

/-- R91: the identity is present exactly while the port is linked, and then the credit is from 1 to 8; otherwise the credit is 0. -/
abbrev SessionLaw (s : State) : Prop :=
  ∀ p : Port,
    if (s.port p).state.linked then
      (s.port p).identity.isSome ∧ 1 ≤ (s.port p).credit ∧ (s.port p).credit ≤ 8
    else (s.port p).identity = none ∧ (s.port p).credit = 0

/-- R38, R178: outside the linked states the lists and the notice are empty. -/
abbrev ClosedListsLaw (s : State) : Prop :=
  ∀ p : Port, (s.port p).state.linked = false →
    (s.port p).owed = [] ∧ (s.port p).receiveList = [] ∧ (s.port p).notice = none ∧ (s.port p).noticeAckOwed = false

/-- R119: the doze idle timer runs only while its four conditions hold. -/
abbrev IdleTimerLaw (s : State) : Prop :=
  ∀ p : Port, (s.port p).dozeIdleTimer.isSome → s.idleMayRun p = true

/-- R25: the claim receive list holds at most 16 messages. -/
abbrev ReceiveRoom (s : State) : Prop :=
  ∀ p : Port, (s.port p).receiveList.length ≤ 16

/-- The port a claim lies on: that of a BOARD claim and of a ROUTE claim (section 1.2). -/
def Claim.port (c : Claim) : Option Port :=
  match c.owner with
  | .board p _ _ _ => some p
  | .route p _ => some p
  | .fixed | .fence => none

/-- R5, R67: every entry is bound to a claim that is not FREE, and its port is the claim's. -/
abbrev BindingLaw (s : State) : Prop :=
  ∀ k : EntryNo, ∀ e, s.entry k = some e → (s.claim e.slot).bind Claim.port = some e.port

/-- R140: an ORPHANED claim has nothing in flight. -/
abbrev OrphansAtRest (s : State) : Prop :=
  ∀ n : SlotNo, ∀ c, s.claim n = some c → c.phase = .orphaned → c.inFlight = 0

/-- The law of R5 with what keeps it: an entry's port is its claim's, and no entry is bound to an orphan. -/
abbrev BoundLaw (s : State) : Prop :=
  InFlightLaw s ∧ BindingLaw s ∧ OrphansAtRest s

/-- The piece has ended (R67). -/
abbrev PieceOutcome.closed (o : PieceOutcome) : Prop :=
  o.isEnded = true

/-- R77: the status so far is OK until a piece ends otherwise, and then that of the lowest-numbered such piece. -/
abbrev StatusSoFarLaw (e : Entry) : Prop :=
  match e.setBy with
  | none => e.status = .ok ∧ ∀ o ∈ e.pieces, o.closed → o = .ended .ok
  | some j => e.status ≠ .ok ∧ e.pieces[j]? = some (.ended e.status) ∧ ∀ o ∈ e.pieces.take j, o.closed → o = .ended .ok

/-- R67, R68, R77: an entry has a piece, the pieces issued are the first ones, and the status so far is right. -/
abbrev EntryShape (e : Entry) : Prop :=
  0 < e.pieces.length ∧ e.issued ≤ e.pieces.length ∧ (∀ o ∈ e.pieces.drop e.issued, o = .notIssued) ∧
    (∀ o ∈ e.pieces.take e.issued, o ≠ .notIssued) ∧ StatusSoFarLaw e

/-- R1: a claim that routes has a unit width of its space. -/
abbrev WidthLaw (s : State) : Prop :=
  ∀ n : SlotNo, ∀ c, s.claim n = some c →
    match c.owner with
    | .board _ _ _ a => a.width ∈ Space.widths c.space
    | .route _ a => a.width ∈ Space.widths c.space
    | .fixed | .fence => True

/-- R67, R70: every entry has its shape, and the issue list of a port holds entries of that port with pieces left to issue. -/
abbrev EntryLaw (s : State) : Prop :=
  WidthLaw s ∧ (∀ k : EntryNo, ∀ e, s.entry k = some e → EntryShape e) ∧
    ∀ p : Port, ∀ k ∈ (s.port p).issueList, ∃ e, s.entry k = some e ∧ e.port = p ∧ e.issued < e.pieces.length

/-- R72, R74: a piece tag that an OUTSTANDING piece of the port holds is in use, and no other piece of the port holds it. -/
abbrev PieceTagLaw (s : State) : Prop :=
  (∀ k : EntryNo, ∀ e, s.entry k = some e → ∀ t : PieceTag, .outstanding t ∈ e.pieces →
      (s.port e.port).tagsInUse[t] = true ∧ e.pieces.count (.outstanding t) = 1) ∧
    ∀ j k : EntryNo, j ≠ k → ∀ d e, s.entry j = some d → s.entry k = some e → d.port = e.port →
      ∀ t : PieceTag, .outstanding t ∈ d.pieces → .outstanding t ∉ e.pieces

/-- R72: a port has OUTSTANDING pieces only in RUN, under tags below its credit; no handshake of the CD8 is outstanding then, since
DOZE_REQ and SLEEP_REQ are sent with no pending entry (R120, R124) and no piece is issued until they are answered (R71). -/
abbrev OutstandingLaw (s : State) : Prop :=
  ∀ k : EntryNo, ∀ e, s.entry k = some e → ∀ t : PieceTag, .outstanding t ∈ e.pieces →
    (s.port e.port).state = .run ∧ (s.port e.port).handshake = .none ∧ t.val < (s.port e.port).credit

/-- R8, R10, R51, R84: an entry that is QUEUED and owes an answer is bound to a claim at rest: the purge of a drain start or a reshape
acceptance ends every other, and no access is queued for a claim in motion. -/
abbrev PurgedLaw (s : State) : Prop :=
  ∀ k : EntryNo, ∀ e, s.entry k = some e → e.issued = 0 → e.owes ≠ none →
    ∀ c, s.claim e.slot = some c → c.phase.inMotion = false

/-- The owner identity of a claim, if it has one. -/
def Claim.identity (c : Claim) : Option Word :=
  match c.owner with
  | .board _ _ y _ => some y
  | .fixed | .fence | .route _ _ => none

/-- R3, R137, R139: a BOARD claim is ORPHANED only while its port is not linked and its hold timer runs; it is LIVE, RESHAPING or
DRAINING only while its port is linked, under the identity of the session. -/
abbrev BoardStateLaw (s : State) : Prop :=
  ∀ n : SlotNo, ∀ c, s.claim n = some c → ∀ p : Port, c.isBoardOf p = true →
    if c.phase = .orphaned then (s.port p).state.linked = false ∧ (s.port p).holdTimer ≠ none
    else (s.port p).state.linked = true ∧ (s.port p).identity = c.identity

/-- R3: the BOARD claims of a port all carry one owner identity. -/
abbrev OneIdentityLaw (s : State) : Prop :=
  ∀ m n : SlotNo, ∀ c d, s.claim m = some c → s.claim n = some d → ∀ p : Port, c.isBoardOf p = true → d.isBoardOf p = true →
    c.identity = d.identity

/-- R9, R11, R138: a RESHAPING or DRAINING claim has an access in flight. -/
abbrev InMotionLaw (s : State) : Prop :=
  ∀ n : SlotNo, ∀ c, s.claim n = some c → c.phase.inMotion = true → 0 < c.inFlight

/-- The laws of R3, R137, R138 and R139 together. -/
abbrev BoardClaimLaw (s : State) : Prop :=
  BoardStateLaw s ∧ OneIdentityLaw s ∧ InMotionLaw s

/-! ### Words the statements share

What a rule writes, spelled out on the records, so that a statement can say a whole next state. -/

/-- The doze idle timer of a port record at a happening that starts or restarts it (R118, R119). -/
def State.idleOf (s : State) (x : PortRecord) : Timer :=
  if x.state = .run ∧ x.dozeCapable = true ∧ s.dozeIdleTime ≠ 0 ∧ x.handshake = .none then some s.dozeIdleTime else none

/-- The record after a message with a good check and the expected number is received (R96, R119). -/
def State.heardRecord (s : State) (p : Port) : PortRecord :=
  { s.port p with recvSeq := (s.port p).recvSeq + 1, dozeIdleTimer := s.idleOf (s.port p) }

def State.heard (s : State) (p : Port) : State :=
  s.setPort p (s.heardRecord p)

/-- The states in which a message's number is compared (R96). -/
abbrev PortState.comparing (st : PortState) : Prop :=
  st = .run ∨ st = .doze ∨ st = .sleep ∨ st = .waking

/-- The record after the CD8 sends a message on the port (R96, R119). -/
def State.sentRecord (s : State) (x : PortRecord) (m : OutMessage) : PortRecord :=
  { x with sent := x.sent ++ [⟨x.sendSeq, m⟩], sendSeq := x.sendSeq + 1, dozeIdleTimer := s.idleOf x }

/-- The record after a wake cause: WAKING, with WAKE sent and the exit timer started, from DOZE and from SLEEP; the same record from
any other state (R128). -/
def PortRecord.afterWakeCause (x : PortRecord) : PortRecord :=
  let woken (limit : Nat) : PortRecord :=
    { x with
      state := .waking
      wakeExitTimer := some limit
      dozeIdleTimer := none
      sent := x.sent ++ [⟨x.sendSeq, .wake⟩]
      sendSeq := x.sendSeq + 1 }
  match x.state with
  | .doze => woken 100
  | .sleep => woken 10000
  | .off | .listen | .greet | .run | .realign | .waking | .resetting | .fault => x

/-- The record of a linked port after a message becomes owed (R36, R128). -/
def PortRecord.owing (x : PortRecord) (m : OwedMessage) : PortRecord :=
  PortRecord.afterWakeCause { x with owed := x.owed ++ [m] }

/-- The state in which port `p` has the record `x`, its flags among it: ATTN follows (R173). -/
def State.portBecomes (s : State) (p : Port) (x : PortRecord) : State :=
  (s.setPort p x).driveAttn

/-- The state after a completion is handed over (R48). -/
def State.answered (s : State) (tag : HostTag) (st : Status) (data : List Byte) : State :=
  { s with completions := s.completions ++ [⟨tag, st, data⟩] }

/-- The router takes a request of this host tag as soon as it arrives, past the tag check (R46, R50). -/
abbrev HostReady (s : State) (tag : HostTag) : Prop :=
  s.hostLink = .up ∧ s.waiting = [] ∧ s.completions.length < 64 ∧ s.claim 0 = some (windowClaim s.winsel) ∧
    ∀ k : EntryNo, ∀ e, s.entry k = some e → e.owes ≠ some tag

/-- Everything but the record of port `p` and ATTN stands. -/
abbrev OnlyPortChanges (s t : State) (p : Port) : Prop :=
  t = { s with ports := t.ports, attn := t.attn } ∧ ∀ q : Port, q ≠ p → t.port q = s.port q

/-! ### Shapes, room and slots (R1, R6, R14, R17, R18) -/

/-- The extent meets no occupied extent of its space, the claim of `leaveOut` left out (R14). -/
def Vacant (s : State) (sp : Space) (base size : Nat) (leaveOut : Option SlotNo) : Prop :=
  ∀ n : SlotNo, ∀ c, s.claim n = some c → some n ≠ leaveOut → c.space = sp →
    ∀ x ∈ c.extents, base + size ≤ x.1 ∨ x.1 + x.2 ≤ base

/-- The lowest-numbered FREE slot from 1 to 63, and that there is none (R6). -/
def LowestFreeSlot (s : State) (n : SlotNo) : Prop :=
  n ≠ 0 ∧ s.claim n = none ∧ ∀ m : SlotNo, m ≠ 0 → m < n → s.claim m ≠ none

def NoFreeSlot (s : State) : Prop :=
  ∀ m : SlotNo, m ≠ 0 → s.claim m ≠ none

/-- The extent passes the shape test (R1); no base for ANY, no width where none is recorded. -/
def GoodShape (sp : Space) (base : Option Nat) (size : Nat) (width : Option Nat) : Prop :=
  size ≠ 0 ∧ size % Space.granule sp = 0 ∧ size ≤ Space.maxSize sp ∧
    (∀ b, base = some b → b % Space.granule sp = 0 ∧ b + size - 1 ≤ Space.lastAddress sp) ∧
    ∀ w, width = some w → w ∈ Space.widths sp

/-- An explicit extent lies in the pool (R17). -/
def InPool (q : Pool) (base : Option Nat) (size : Nat) : Prop :=
  ∀ b, base = some b → q.first ≤ b ∧ b + size - 1 ≤ q.last

/-- Candidate `k` of a placement (R18). -/
def candidateAt (s : State) (sp : Space) (k : Nat) : Nat :=
  (s.pool sp).first + k * Space.granule sp

/-- The base a request gets: its own where that is vacant, the lowest candidate that ends in the pool and is vacant for ANY
(R14, R18). -/
def RoomFor (s : State) (sp : Space) (base : Option Nat) (size : Nat) (leaveOut : Option SlotNo) (b : Nat) : Prop :=
  match base with
  | some x => b = x ∧ Vacant s sp x size leaveOut
  | none => ∃ k, b = candidateAt s sp k ∧ b + size ≤ (s.pool sp).last + 1 ∧ Vacant s sp b size leaveOut ∧
      ∀ j, j < k → ¬ Vacant s sp (candidateAt s sp j) size leaveOut

/-- The reason a request with no room is refused (R14, R18). -/
def NoRoomFor (s : State) (sp : Space) (base : Option Nat) (size : Nat) (leaveOut : Option SlotNo) (r : Reason) : Prop :=
  match base with
  | some x => r = .overlap ∧ ¬ Vacant s sp x size leaveOut
  | none => r = .noRoom ∧ ∀ k, candidateAt s sp k + size ≤ (s.pool sp).last + 1 →
      ¬ Vacant s sp (candidateAt s sp k) size leaveOut

/-- The explicit base of a message, none for ANY (R182). -/
def explicitBase (any : Bool) (base : Word) : Option Nat :=
  if any then none else some base.toNat

/-- No BOARD claim of the port carries the handle (R3). -/
def HandleUnused (s : State) (p : Port) (h : Handle) : Prop :=
  ∀ n : SlotNo, ∀ c, s.claim n = some c → c.carries p h = false

/-- A message for the handle waits in the owed list (R26). -/
def OwedFor (x : PortRecord) (h : Handle) : Prop :=
  ∃ m ∈ x.owed, m.handle = some h

/-! ### Issue writes (R153) -/

/-- The command record as an issue write finds it: the 8-byte write stores argument word 3 first (R61). -/
def recordFound (w : IssueWrite) (r : CommandRecord) : CommandRecord :=
  match w with
  | .lane _ => r
  | .withArgument3 a _ => { r with arg3 := a }

/-- The row of the table an issue write of a command stands under; BAD_COMMAND for none. -/
def issueRowOf : Option HostCommand → HostTag → IssueWrite → Instr
  | none => .badCommand
  | some .hostClaim => .hostClaim
  | some .hostRetire => .hostRetire
  | some .revoke => .revoke
  | some .readClaim => .readClaim
  | some .find => .find
  | some .portEnable => .portEnable
  | some .portDisable => .portDisable
  | some .portReset => .portReset
  | some .portRetrain => .portRetrain
  | some .portSleep => .portSleep
  | some .portWake => .portWake
  | some .setQuota => .setQuota
  | some .setHold => .setHold
  | some .setPool => .setPool
  | some .setTiming => .setTiming

/-- The state in which an issue write has latched the record and made the slot BUSY (R153). -/
def State.issued (s : State) (w : IssueWrite) : State :=
  { s with
    command := recordFound w s.command
    latched := recordFound w s.command
    slotState := .busy }

/-- An issue write under a tag arrives when the slot is not BUSY, with a record whose code and arguments are as given. -/
abbrev IssueReady (s : State) (tag : HostTag) (w : IssueWrite) (r : CommandRecord) : Prop :=
  HostReady s tag ∧ s.slotState ≠ .busy ∧ recordFound w s.command = r

/-- A command finishes (R155): the whole result record, DONE, CMD_DONE and with it ATTN. -/
def State.concluded (s : State) (status word0 word1 word2 word3 : Word) : State :=
  State.driveAttn
    { s with
      result := ⟨status, word0, word1, word2, word3⟩
      slotState := .done
      globalFlags := s.globalFlags ||| 1 }

/-! ### Entries that an event ends (R5, R9, R11, R72, R77 to R80)

An event names the entries it reaches by their places. `State.afterEnd` is the state once all of them have finished: it is written from
what the entries and the claims hold, part by part, with no walk over the table. -/

/-- The entry in a place, if the event reaches it. -/
def State.reached (s : State) (reaches : EntryNo → Entry → Bool) (k : EntryNo) : Option Entry :=
  (s.entry k).filter (reaches k)

/-- Every entry of a port, its entries with a piece issued, and the QUEUED entries of a slot that owe an answer (R84 to R87). -/
def ofPort (p : Port) : EntryNo → Entry → Bool := fun _ e => e.port == p
def issuedOf (p : Port) : EntryNo → Entry → Bool := fun _ e => e.port == p && decide (e.issued ≠ 0)
def queuedOf (n : SlotNo) : EntryNo → Entry → Bool := fun _ e => e.slot == n && decide (e.issued = 0) && e.owes.isSome

/-- The status of an entry whose open pieces take `st`: that of its lowest-numbered piece ended other than OK (R77). -/
def Entry.statusWith (e : Entry) (st : Status) : Status :=
  ((e.pieces.map fun o =>
    match o with
    | .ended x => x
    | .notIssued | .outstanding _ => st).find? (· ≠ .ok)).getD .ok

/-- How many entries of the slot the event ends. -/
def State.endedAt (s : State) (reaches : EntryNo → Entry → Bool) (n : SlotNo) : Nat :=
  allEntries.countP fun k => (s.reached reaches k).any fun e => e.slot == n

/-- The slot's claim, where the event ends its last entry while it is RESHAPING or DRAINING (R5). -/
def State.settling (s : State) (reaches : EntryNo → Entry → Bool) (n : SlotNo) : Option Claim :=
  (s.claim n).filter fun c =>
    c.phase.inMotion && decide (0 < s.endedAt reaches n) && decide (c.inFlight = s.endedAt reaches n)

/-- The slot after the event: the in-flight count falls by one for each entry; a reshape commits and a drain completes with the
last one (R5, R9, R11). -/
def State.claimAfter (s : State) (reaches : EntryNo → Entry → Bool) (n : SlotNo) : Option Claim :=
  match s.settling reaches n with
  | none => (s.claim n).map fun c => { c with inFlight := c.inFlight - s.endedAt reaches n }
  | some c =>
    match c.phase with
    | .reshaping b z => some { c with base := b, size := z, phase := .live, inFlight := 0 }
    | .live | .draining _ | .orphaned => none

/-- The message a settling claim owes (R9, R11). -/
def Claim.settlingMessage (c : Claim) (n : SlotNo) : Option OwedMessage :=
  match c.owner with
  | .fixed | .fence | .route _ _ => none
  | .board _ h _ _ =>
    match c.phase with
    | .reshaping b z => some (.grant h n c.space b z)
    | .draining .release => some (.released h)
    | .draining .revoke => some (.revoked h)
    | .draining .hostRetire | .live | .orphaned => none

/-- The messages that become owed, in the order in which the last entries of their claims finish (R79). -/
def State.settlingMessages (s : State) (reaches : EntryNo → Entry → Bool) : List OwedMessage :=
  allEntries.filterMap fun k =>
    (s.reached reaches k).bind fun e =>
      if allEntries.any fun j => decide (k < j) && (s.reached reaches j).any fun d => d.slot == e.slot then none
      else (s.settling reaches e.slot).bind fun c => c.settlingMessage e.slot

/-- The slot whose drain completes under the running command (R155, R159, R160). -/
def State.drainReport (s : State) (reaches : EntryNo → Entry → Bool) : Option SlotNo :=
  allSlots.find? fun n => (s.settling reaches n).any fun c =>
    match c.phase with
    | .draining .revoke => s.running .revoke n.val
    | .draining .hostRetire => s.running .hostRetire n.val
    | .draining .release | .reshaping _ _ | .live | .orphaned => false

/-- The completions of the entries that owe an answer, in ascending entry number (R79). -/
def State.completionsOf (s : State) (reaches : EntryNo → Entry → Bool) (st : Status) : List Completion :=
  allEntries.filterMap fun k =>
    (s.reached reaches k).bind fun e =>
      e.owes.map fun tag => ⟨tag, e.statusWith st, match e.kind with | .read => e.buffer | .write => []⟩

/-- The record of the entries' port: its issue list and tags, the claim count, CLAIM_CHANGE and POSTED_LOST, and the messages owed,
which wake a port in DOZE or SLEEP (R36, R72, R73, R79, R80, R128). -/
def State.portAfterEnd (s : State) (p : Port) (reaches : EntryNo → Entry → Bool) (st : Status) : PortRecord :=
  let x := s.port p
  let messages := s.settlingMessages reaches
  let freed := allSlots.countP fun n => (s.settling reaches n).any fun c => c.isBoard && (s.claimAfter reaches n).isNone
  let changed := allSlots.any fun n => (s.settling reaches n).any Claim.isBoard
  let lost := allEntries.any fun k => (s.reached reaches k).any fun e =>
    e.posted && e.owes.isNone && decide (e.statusWith st ≠ .ok)
  let y : PortRecord :=
    { x with
      issueList := x.issueList.filter fun k => (s.reached reaches k).isNone
      tagsInUse := Vector.ofFn fun t =>
        x.tagsInUse[t] && !(allEntries.any fun k => (s.reached reaches k).any fun e => e.pieces.contains (.outstanding t))
      claimCount := x.claimCount - freed
      flags := x.flags ||| (if changed then 0x040 else 0) ||| (if lost then 0x100 else 0)
      owed := if x.state.linked then x.owed ++ messages else x.owed }
  if x.state.linked = true ∧ messages ≠ [] then y.afterWakeCause else y

/-- The state after an event has ended with `st` the entries it reaches, all of port `p`. -/
def State.afterEnd (s : State) (p : Port) (reaches : EntryNo → Entry → Bool) (st : Status) : State :=
  let t : State :=
    { s with
      entries := Vector.ofFn fun k => if (s.reached reaches k).isSome then none else s.entry k
      completions := s.completions ++ s.completionsOf reaches st
      claims := Vector.ofFn (s.claimAfter reaches) }
  let u := t.portBecomes p (s.portAfterEnd p reaches st)
  match s.drainReport reaches with
  | none => u
  | some n => u.concluded 1 (BitVec.ofNat 32 n.val) 0 0 0

/-! ### Host link reset (R64, R65) -/

/-- What a host link reset leaves of an entry (R64). -/
def entryAfterHostReset : Option Entry → Option Entry
  | none => none
  | some e =>
    match e.owes with
    | none => some e
    | some _ => if e.issued = 0 then none else some { e with owes := none }

/-- The entries a host link reset frees: the QUEUED ones that owe an answer (R64); and those of them on one port. -/
def freedAtHostReset : EntryNo → Entry → Bool := fun _ e => e.owes.isSome && decide (e.issued = 0)
def freedAtHostResetOf (p : Port) : EntryNo → Entry → Bool := fun k e => freedAtHostReset k e && e.port == p

/-- The state after a host link reset. A freed entry has no completion and leaves its tag; its claim settles and its port takes the
messages as at the end of any other entry (R5, R9, R11), and everything else stands (R65). -/
def State.afterHostReset (s : State) : State :=
  let t : State :=
    { s with
      hostLink := .reset
      waiting := []
      entries := Vector.ofFn fun k => entryAfterHostReset (s.entry k)
      claims := Vector.ofFn (s.claimAfter freedAtHostReset)
      ports := Vector.ofFn fun p => s.portAfterEnd p (freedAtHostResetOf p) .ok
      globalFlags := s.globalFlags ||| 4 }
  match s.drainReport freedAtHostReset with
  | none => t.driveAttn
  | some n => t.concluded 1 (BitVec.ofNat 32 n.val) 0 0 0

/-! ### Sessions, REALIGN and link loss (R103, R110, R112, R134, R137 to R139) -/

/-- The laws under which the manual's account of an event's entries is exact. -/
abbrev EntriesSound (s : State) : Prop :=
  AttnFollows s ∧ BoundLaw s ∧ EntryLaw s

/-- The flags of a record, with those of `marks` raised. -/
def PortRecord.raising (x : PortRecord) (marks : BitVec 12) : PortRecord :=
  { x with flags := x.flags ||| marks }

/-- The end of an operation finishes the command that runs it (R155): code, argument word 0, status. -/
def State.ends (s : State) (code : Nat) (p : Port) (status : Word) : State :=
  if s.slotState = .busy ∧ s.latched.code.toNat = code ∧ s.latched.arg0.toNat = p.val then s.concluded status 0 0 0 0 else s

/-- The record of a port whose session is over (R110 steps 1 to 3, R112 steps 1 to 3), in the state it goes to, with the tags then in
use marked (R89; log 22). -/
def PortRecord.sessionOver (x : PortRecord) (st : PortState) : PortRecord :=
  { state := st
    present := x.present, greetFailures := x.greetFailures, realignLimit := x.realignLimit, holdTime := x.holdTime
    holdTimer := x.holdTimer, quota := x.quota, claimCount := x.claimCount, issueList := x.issueList, tagsInUse := x.tagsInUse
    endedTags := x.tagsInUse
    flags := x.flags, sent := x.sent
    identity := none, credit := 0, dozeCapable := false, realignAttempts := 0, sendSeq := 0, recvSeq := 0
    greetTimer := none, attemptTimer := none, resetTimer := none, dozeIdleTimer := none, answerTimer := none, wakeExitTimer := none
    handshake := .none, receiveList := [], owed := [], noticeAckOwed := false, notice := none }

/-- Every tag of the port is free, and its issue list holds only what still waits (R85, R86). -/
def State.tagsCleared (s : State) (p : Port) : State :=
  s.setPort p { s.port p with tagsInUse := Vector.replicate 8 false }

/-- The port's board claims that a test picks are FREE (R12). -/
def State.freed (s : State) (p : Port) (picks : Claim → Bool) : State :=
  let count := allSlots.countP fun n => (s.claim n).any picks
  if count = 0 then s
  else
    ({ s with claims := s.claims.map fun (c : Option Claim) => c.filter fun d => !picks d }).portBecomes p
      (PortRecord.raising { s.port p with claimCount := (s.port p).claimCount - count } 0x040)

/-- A port that enters REALIGN: handshake and timers gone, the power command ended, the entries with a piece issued ended RETRAINED,
ALIGN sent with number 0 (R85, R103, R106, R134). -/
def State.realigned (s : State) (p : Port) : State :=
  let x := s.port p
  let s1 := s.setPort p
    { x with state := .realign, handshake := .none, dozeIdleTimer := none, answerTimer := none, wakeExitTimer := none }
  let s2 := if x.handshake = .sleepReq then s1.ends 10 p 6 else if x.state = .waking then s1.ends 11 p 8 else s1
  let s3 := (s2.afterEnd p (issuedOf p) .retrained).tagsCleared p
  s3.setPort p
    { s3.port p with
      realignAttempts := 0
      realignLimit := s.realignLimit
      sent := (s3.port p).sent ++ [⟨0, .align p⟩]
      attemptTimer := some 2000 }

/-- Orphans of the port at link loss: held under the hold timer, or FREE at once where the hold time is 0 (R138, R139). -/
def State.orphansHeld (s : State) (p : Port) : State :=
  if (s.orphans p) = [] then s
  else if (s.port p).holdTime = 0 then
    let t := s.freed p fun c => c.isOrphanOf p
    t.portBecomes p ((t.port p).raising 0x020)
  else s.portBecomes p (PortRecord.raising { s.port p with holdTimer := some (s.port p).holdTime } 0x008)

/-- A port whose link is lost (R110, R137 to R139). -/
def State.lost (s : State) (p : Port) : State :=
  let s1 := s.setPort p ((s.port p).sessionOver .listen)
  let s2 : State :=
    { s1 with claims := s1.claims.map fun (c : Option Claim) => c.map fun d =>
        match d.phase with
        | .draining _ => d
        | .live | .reshaping _ _ | .orphaned => if d.isBoardOf p then { d with phase := .orphaned } else d }
  let s3 := s2.afterEnd p (ofPort p) .linkDown
  let s4 := s3.setPort p { s3.port p with tagsInUse := Vector.replicate 8 false, issueList := [] }
  let s5 := s4.orphansHeld p
  (((s5.portBecomes p ((s5.port p).raising 0x002)).ends 9 p 7).ends 10 p 7).ends 11 p 7

/-- A port whose session PORT_DISABLE or PORT_RESET ends: the hold timer and the failure count too, the entries LINK_DOWN, every board
claim FREE (R86, R112, R113). -/
def State.shut (s : State) (p : Port) (st : PortState) (signalling : Timer) : State :=
  let s1 := s.setPort p { (s.port p).sessionOver st with holdTimer := none, greetFailures := 0, resetTimer := signalling }
  let s2 := s1.afterEnd p (ofPort p) .linkDown
  let s3 := s2.setPort p { s2.port p with tagsInUse := Vector.replicate 8 false, issueList := [] }
  s3.freed p fun c => c.isBoardOf p

/-! ### Where a board message arrives (R95 to R97) -/

/-- The state in which a message with a right check is judged: with its number taken where it is compared, as it stands in GREET and
REALIGN. -/
def State.judged (s : State) (p : Port) : State :=
  if (s.port p).state = .greet ∨ (s.port p).state = .realign then s else s.heard p

/-- A message with this number is judged: the receiver is open, and the number is the expected one where it is compared. -/
abbrev Arrives (s : State) (p : Port) (seq : Byte) : Prop :=
  (s.port p).state = .greet ∨ (s.port p).state = .realign ∨ ((s.port p).state.comparing ∧ seq = (s.port p).recvSeq)

/-- PROTOCOL is raised (R25, R95, R97). -/
def State.protocolRaised (s : State) (p : Port) : State :=
  s.portBecomes p ((s.port p).raising 0x400)

/-- No pending entry of the port (R120, R124). -/
abbrev NoEntryOf (s : State) (p : Port) : Prop :=
  ∀ k : EntryNo, ∀ e, s.entry k = some e → e.port ≠ p

/-- No pending entry, an empty owed list and an empty claim receive list (R120, R126). -/
abbrev PortEmpty (s : State) (p : Port) : Prop :=
  NoEntryOf s p ∧ (s.port p).owed = [] ∧ (s.port p).receiveList = []

/-- The record of a port in DOZE or SLEEP (R122, R125, R126), which work that waits wakes at once (R128). -/
def PortRecord.resting (x : PortRecord) (st : PortState) : PortRecord :=
  { x with state := st, handshake := .none, answerTimer := none, dozeIdleTimer := none }

def State.restsOrWakes (s : State) (p : Port) : State :=
  if ¬ NoEntryOf s p ∨ (s.port p).owed ≠ [] then s.setPort p (s.port p).afterWakeCause else s

/-- The record after the doze idle timer starts or restarts where R119 lets it run. -/
def State.timed (s : State) (x : PortRecord) : PortRecord :=
  { x with dozeIdleTimer := s.idleOf x }

end Sys2Proof.Machine
end

