-- ==== Sys2Proof/WellFormed.lean ====
section
/-! DEFINITION. Which commands are well formed: the operands name a happening of the row they stand under. The types of
`Instr` already bound every port, handle, tag and lane; what is left is checked here. A command that fails a check still has a
meaning (log 17): the check says when it is the row it is written as. -/

namespace Sys2Proof

/-- An access of 1, 2, 4 or 8 bytes naturally aligned in the window (R49, R59). -/
def windowAligned (offset : BitVec 12) (data : List Byte) : Bool :=
  (data.length == 1 || data.length == 2 || data.length == 4 || data.length == 8) &&
    offset.toNat % data.length == 0

/-- The word at an offset of the window has a behaviour of its own when written (R61): the issue register, a flag word, the mask
or the notice-acknowledge register (section 10.6). -/
def actionOffset (offset : Nat) : Bool :=
  let w := offset / 4 * 4
  w == 0x054 || w == 0x100 || w == 0x104 || w == 0x144 || (decide (0x110 ≤ w) && decide (w < 0x130))

/-- WINDOW_WRITE is a write no word of which has a behaviour of its own. -/
def plainWindowWrite (offset : BitVec 12) (data : List Byte) : Bool :=
  !actionOffset offset.toNat && !actionOffset (offset.toNat + data.length - 1)

/-- The well-formed commands. -/
def Instr.wellFormed : Instr → Bool
  | .windowWrite _ offset data => windowAligned offset data && plainWindowWrite offset data
  | .complete _ _ m => decide (m.data.length ≤ 8)
  | .powerOnReset .. | .hostLinkUp | .hostLinkReset | .hostRequest .. | .completionSend | .flagClear .. | .maskWrite ..
  | .noticeAcknowledge .. | .badCommand .. | .hostClaim .. | .hostRetire .. | .revoke .. | .readClaim .. | .find ..
  | .portEnable .. | .portDisable .. | .portReset .. | .portRetrain .. | .portSleep .. | .portWake .. | .setQuota ..
  | .setHold .. | .setPool .. | .setTiming .. | .presenceAppears .. | .presenceLost .. | .greetEntry .. | .hello ..
  | .greetTimerExpiry .. | .badCheckMessage .. | .unknownMessage .. | .alignAck .. | .attemptTimerExpiry ..
  | .resetSignallingTimerExpiry .. | .claim .. | .reshape .. | .release .. | .takeClaim .. | .takeReshape ..
  | .takeRelease .. | .owedMessageSend .. | .pieceIssue .. | .completionTimerExpiry .. | .holdTimerExpiry ..
  | .dozeIdleTimerExpiry .. | .handshakeAnswerTimerExpiry .. | .dozeAck .. | .dozeNak .. | .sleepReq .. | .sleepAck ..
  | .sleepNak .. | .wake .. | .wakeAck .. | .wakeExitTimerExpiry .. | .notice .. => true

end Sys2Proof
end

