-- ==== Sys2Proof/Certificates/Slice0/Obligations.lean ====
section
/-! DEFINITION. The statements for the provers. -/

open Sys2Proof Sys2Proof.Machine

/-! ### The queue -/

/-- The fixed form of this row: the command at the front of the queue is run on the rest of the state. -/
def Obligations.StepRunsFrontCommand : Prop :=
  ∀ (s : State) (c : Instr) (rest : List Instr), s.pending = c :: rest → step s = exec c { s with pending := rest }

/-- Log 3, the model's choice: on an empty queue the router takes the next request that waits, where R46 lets it, and the block
idles otherwise. -/
def Obligations.EmptyQueueServesWaitingRequest : Prop :=
  ∀ s : State, s.pending = [] →
    (s.waiting = [] ∨ s.hostLink = .reset ∨ 64 ≤ s.completions.length → step s = .next s) ∧
    (∀ r rest, s.waiting = r :: rest → s.hostLink = .up → s.completions.length < 64 →
      step s = .next (State.takeRequest { s with waiting := rest } r))

/-- No command of the CD8 stops, and none touches the queue. That a command whose happening cannot be taken answers a next state is the
model's choice (log 2), and so is that POWER_ON_RESET keeps the queue (log 21). -/
def Obligations.EveryCommandAnswersNext : Prop :=
  ∀ (c : Instr) (s : State), ∃ t, exec c s = .next t ∧ t.pending = s.pending

/-! ### Reset -/

/-- R22 for every level of the straps, with the laws of chapter 1. -/
def Obligations.PowerOnResetFillsClaimTable : Prop :=
  ∀ (winsel : BitVec 4) (s : State), ∃ t, exec (.powerOnReset winsel) s = .next t ∧
    t.claim 0 = some
      { owner := .fixed, space := .mem, base := 0xFE000000 + winsel.toNat * 0x1000, size := 0x1000, phase := .live, inFlight := 0 } ∧
    (∀ n : SlotNo, n ≠ 0 → t.claim n = none) ∧
    t.memPool = ⟨0x80000000, 0xBFFFFFFF⟩ ∧ t.ioPool = ⟨0x1000, 0xFFFF⟩ ∧
    (∀ p : Port, (t.port p).quota = 8 ∧ (t.port p).claimCount = 0) ∧
    WindowLaw t ∧ OverlapLaw t ∧ QuotaLaw t ∧ HandleLaw t ∧ InFlightLaw t

/-- R90, R92, R117, R136, R174, R178: the other blocks after power-on reset; the queue and the partners stand (logs 7, 21). -/
def Obligations.PowerOnResetClearsBlocks : Prop :=
  ∀ (winsel : BitVec 4) (s : State), ∃ t, exec (.powerOnReset winsel) s = .next t ∧
    t.winsel = winsel ∧ t.pending = s.pending ∧
    t.hostLink = .reset ∧ t.waiting = [] ∧ t.completions = [] ∧ (∀ k : EntryNo, t.entry k = none) ∧
    t.slotState = .idle ∧ t.command = ⟨0, 0, 0, 0, 0⟩ ∧ t.result = ⟨0, 0, 0, 0, 0⟩ ∧
    t.completionTimeout = 2000 ∧ t.dozeIdleTime = 200 ∧ t.realignLimit = 3 ∧
    t.globalFlags = 0 ∧ t.maskGlobal = 0 ∧ t.maskPort = 0 ∧ t.attn = false ∧
    ∀ p : Port, ∃ limit sent, t.port p =
      { present := (s.port p).present, state := .listen, identity := none, credit := 0, dozeCapable := false, greetFailures := 0,
        realignAttempts := 0, realignLimit := limit, sendSeq := 0, recvSeq := 0, greetTimer := none, attemptTimer := none,
        resetTimer := none, receiveList := [], owed := [], noticeAckOwed := false, holdTime := 500, holdTimer := none,
        handshake := .none, dozeIdleTimer := none, answerTimer := none, wakeExitTimer := none, quota := 8, claimCount := 0,
        issueList := [], tagsInUse := Vector.replicate 8 false, endedTags := Vector.replicate 8 false, flags := 0, notice := none,
        sent := sent }

/-- R184: what the window reads after power-on reset. -/
def Obligations.PowerOnResetWindowReads : Prop :=
  ∀ (winsel : BitVec 4) (s t : State), exec (.powerOnReset winsel) s = .next t →
    let word (offset : Nat) : Word := t.readRegister (registerAt offset)
    word 0x000 = 0xCD8 ∧ word 0x004 = 1 ∧
    (∀ i : Fin 5, word (0x040 + 4 * i.val) = 0) ∧ word 0x054 = 0 ∧ word 0x058 = 0 ∧ (∀ i : Fin 5, word (0x060 + 4 * i.val) = 0) ∧
    word 0x100 = 0 ∧ word 0x104 = 0 ∧ (∀ p : Port, word (0x110 + 4 * p.val) = 0) ∧ word 0x140 = 0 ∧ word 0x144 = 0 ∧
    (∀ p : Port, word (0x200 + 0x10 * p.val) = 1 ∧ word (0x204 + 0x10 * p.val) = 0 ∧ word (0x208 + 0x10 * p.val) = 0x800 ∧
      word (0x20C + 0x10 * p.val) = 500) ∧
    word 0x300 = 2000 ∧ word 0x304 = 200 ∧ word 0x308 = 3 ∧
    word 0x310 = 0x80000000 ∧ word 0x314 = 0xBFFFFFFF ∧ word 0x318 = 0x1000 ∧ word 0x31C = 0xFFFF

/-- Every law of the model holds right after reset. -/
def Obligations.ResetMeetsEveryLaw : Prop :=
  AttnFollows State.reset ∧ WindowLaw State.reset ∧ OverlapLaw State.reset ∧ QuotaLaw State.reset ∧ HandleLaw State.reset ∧
    SettingsLaw State.reset ∧ BoundLaw State.reset ∧ TagLaw State.reset ∧ CompletionRoom State.reset ∧ HandshakeLaw State.reset ∧
    SessionLaw State.reset ∧ ClosedListsLaw State.reset ∧ IdleTimerLaw State.reset ∧ ReceiveRoom State.reset ∧ EntryLaw State.reset ∧
    PieceTagLaw State.reset ∧ OutstandingLaw State.reset ∧ BoardClaimLaw State.reset ∧ PurgedLaw State.reset

/-! ### The host link -/

/-- R46, R48: training, and the sending of the completion list.
Where a happening cannot be taken, nothing changes: the model's choice, log 2. -/
def Obligations.HostLinkTrainsAndSends : Prop :=
  ∀ s : State,
    exec .hostLinkUp s = .next { s with hostLink := .up } ∧
    (∀ c rest, s.hostLink = .up → s.completions = c :: rest →
      exec .completionSend s = .next { s with completions := rest, hostSent := s.hostSent ++ [c] }) ∧
    (s.hostLink = .reset ∨ s.completions = [] → exec .completionSend s = .next s)

/-- R64, R65: the entries by what they hold, the completion list as it was, the flag, and the whole next state
(`State.afterHostReset`); where no claim settles, every port's record stands but for the freed entries' places in its issue list, and
the command slot stands. The requests that waited on the link are lost: log 4, DEDUCED. That a claim which a freed entry leaves with
nothing in flight settles (R5), where R184 has no word of the window but the global flag word change, is the model's choice, log 23; where
what is QUEUED and owes an answer is bound to claims at rest, as every step keeps it (`PurgedLaw`), the window changes by R184.
Where a happening cannot be taken, nothing changes: the model's choice, log 2. -/
def Obligations.HostLinkResetReleasesAnswers : Prop :=
  ∀ s : State,
    (s.hostLink = .reset → exec .hostLinkReset s = .next s) ∧
    (s.hostLink = .up → ∃ t, exec .hostLinkReset s = .next t ∧
      t.hostLink = .reset ∧ t.completions = s.completions ∧ t.globalFlag .hostLinkReset = true ∧
      (∀ k : EntryNo, t.entry k = entryAfterHostReset (s.entry k)) ∧
      (∀ k : EntryNo, ∀ e, t.entry k = some e → e.owes = none) ∧
      (∀ f, s.globalFlag f = true → t.globalFlag f = true) ∧ (∀ p f, s.portFlag p f = true → t.portFlag p f = true)) ∧
    (s.hostLink = .up → BoundLaw s → EntryLaw s → exec .hostLinkReset s = .next s.afterHostReset) ∧
    (s.hostLink = .up → BoundLaw s → EntryLaw s → (∀ n : SlotNo, s.settling freedAtHostReset n = none) →
      exec .hostLinkReset s = .next (State.driveAttn
        { s with
          hostLink := .reset
          waiting := []
          entries := Vector.ofFn fun k => entryAfterHostReset (s.entry k)
          claims := Vector.ofFn fun n =>
            (s.claim n).map fun c => { c with inFlight := c.inFlight - s.endedAt freedAtHostReset n }
          ports := s.ports.map fun x => { x with issueList := x.issueList.filter fun k => (s.reached freedAtHostReset k).isNone }
          globalFlags := s.globalFlags ||| 4 })) ∧
    (s.hostLink = .up → BoundLaw s → EntryLaw s → PurgedLaw s →
      (∀ n : SlotNo, s.settling freedAtHostReset n = none) ∧
      ∃ t, exec .hostLinkReset s = .next t ∧
        ∀ offset, offset ≠ 0x100 → t.readRegister (registerAt offset) = s.readRegister (registerAt offset))

/-! ### Requests -/

/-- The fields of a request's header (section 10.1). -/
def requestTag (r : HostRequest) : HostTag := r.byte0.setWidth 6
def requestKind (r : HostRequest) : Nat := r.byte1.toNat % 4
def requestSpace (r : HostRequest) : Nat := r.byte1.toNat / 4 % 4
def requestLength (r : HostRequest) : Nat := r.byte2.toNat

/-- R49, read on the header of R179. -/
def IllFormed (s : State) (r : HostRequest) : Prop :=
  (requestKind r ≠ 1 ∧ requestKind r ≠ 2) ∨ (requestSpace r ≠ 1 ∧ requestSpace r ≠ 2) ∨
    (requestSpace r = 1 ∧ requestLength r ∉ [1, 2, 4, 8, 16, 32, 64]) ∨ (requestSpace r = 2 ∧ requestLength r ∉ [1, 2, 4]) ∨
    r.address.toNat % requestLength r ≠ 0 ∨ (requestSpace r = 2 ∧ 0xFFFF < r.address.toNat) ∨
    (requestSpace r = 1 ∧ windowBase s.winsel ≤ r.address.toNat ∧ r.address.toNat < windowBase s.winsel + 0x1000 ∧
      8 < requestLength r) ∨
    (requestKind r = 2 ∧ r.data.length ≠ requestLength r) ∨ (requestKind r = 1 ∧ r.data ≠ [])

/-- The read data of an answer given at once (R52). -/
def atOnceData (r : HostRequest) : List Byte :=
  if requestKind r = 1 then List.replicate (requestLength r) 0xFF else []

/-- R49: MALFORMED at once, before the tag check and the lookup, and nothing else changes. -/
def Obligations.IllFormedRequestAnsweredMalformed : Prop :=
  ∀ (s : State) (r : HostRequest), s.hostLink = .up → s.waiting = [] → s.completions.length < 64 →
    s.claim 0 = some (windowClaim s.winsel) → IllFormed s r →
    ∃ data, exec (.hostRequest r) s = .next (s.answered (requestTag r) .malformed data) ∧
      (requestKind r = 1 →
        data = if requestLength r ∈ [1, 2, 4, 8, 16, 32, 64] then List.replicate (requestLength r) 0xFF else []) ∧
      (requestKind r = 2 → data = [])

/-- The claim covers the address (R21). -/
def Covers (c : Claim) (sp : Space) (address : Nat) : Prop :=
  c.space = sp ∧ ∃ x ∈ c.extents, x.1 ≤ address ∧ address < x.1 + x.2

/-- The rows of R51 that answer at once, for a claim of a slot other than 0; none where the access is queued. -/
def atOnceStatus (s : State) (c : Claim) : Option Status :=
  match c.owner with
  | .fixed => none
  | .fence => some .fenced
  | .route p a | .board p _ _ a =>
    match c.phase with
    | .draining _ => some .retired
    | .reshaping _ _ => some .moved
    | .orphaned => some .linkDown
    | .live =>
      match (s.port p).state with
      | .run | .waking | .realign | .doze => none
      | .sleep => if a.wake = .nowake then some .asleep else none
      | .off | .listen | .greet | .resetting | .fault => some .linkDown

/-- A well-formed request past the tag check. -/
abbrev Routed (s : State) (r : HostRequest) (sp : Space) : Prop :=
  WindowLaw s ∧ OverlapLaw s ∧ HostReady s (requestTag r) ∧ ¬ IllFormed s r ∧ requestSpace r = Space.code sp

/-- R51 and R52: what lookup and the port's state decide, and that an answer given at once changes nothing else. That a LIVE BOARD claim
on a port that is not linked is answered as a ROUTE claim of that port is the model's choice (log 16): no run reaches it (R137). -/
def Obligations.RouterDecidesByClaimAndPort : Prop :=
  ∀ (s : State) (r : HostRequest) (sp : Space), Routed s r sp →
    ((∀ n : SlotNo, ∀ c, s.claim n = some c → ¬ Covers c sp r.address.toNat) →
      exec (.hostRequest r) s = .next (s.answered (requestTag r) .unclaimed (atOnceData r))) ∧
    (∀ n : SlotNo, ∀ c, s.claim n = some c → Covers c sp r.address.toNat →
      s.lookup sp r.address.toNat = some n ∧
      (n = 0 → s.route sp r.address.toNat = .window) ∧
      (n ≠ 0 → ∀ st, atOnceStatus s c = some st →
        exec (.hostRequest r) s = .next (s.answered (requestTag r) st (atOnceData r))) ∧
      (n ≠ 0 → atOnceStatus s c = none → ∃ p a, s.route sp r.address.toNat = .queue n p a ∧ c.port = some p))

/-- R50 and R55: the tag check, and the capacity check of an access that would be queued. -/
def Obligations.HeldTagAndFullTableAnswerBusy : Prop :=
  ∀ (s : State) (r : HostRequest) (sp : Space),
    (s.hostLink = .up → s.waiting = [] → s.completions.length < 64 → s.claim 0 = some (windowClaim s.winsel) → ¬ IllFormed s r →
      (∃ k : EntryNo, ∃ e, s.entry k = some e ∧ e.owes = some (requestTag r)) →
      exec (.hostRequest r) s = .next (s.answered (requestTag r) .tagBusy (atOnceData r))) ∧
    (Routed s r sp → (∀ k : EntryNo, s.entry k ≠ none) →
      ∀ n : SlotNo, n ≠ 0 → ∀ c, s.claim n = some c → Covers c sp r.address.toNat → atOnceStatus s c = none →
      exec (.hostRequest r) s = .next (s.answered (requestTag r) .busy (atOnceData r)))

/-- The lowest-numbered free place (R66). -/
def LowestFreePlace (s : State) (k : EntryNo) : Prop :=
  s.entry k = none ∧ ∀ j : EntryNo, j < k → s.entry j ≠ none

/-- The entry a queued request becomes (R56 to R58, R67). -/
def entryFor (r : HostRequest) (sp : Space) (n : SlotNo) (p : Port) (a : Attributes) : Entry where
  owes := if requestKind r = 2 ∧ a.posting = .posted then none else some (requestTag r)
  posted := decide (requestKind r = 2 ∧ a.posting = .posted)
  kind := if requestKind r = 1 then .read else .write
  space := sp
  address := r.address.toNat
  length := requestLength r
  data := r.data
  slot := n
  port := p
  width := a.width
  pieces := List.replicate (if a.width < requestLength r then requestLength r / a.width else 1) .notIssued
  issued := 0
  completed := 0
  status := .ok
  setBy := none
  buffer := if requestKind r = 1 then List.replicate (requestLength r) 0xFF else []
  timer := none

/-- R54, R56, R57: the creation of an entry as one happening: place, in-flight count, issue list, doze idle timer, wake cause, and
the OK of a posted write. -/
def Obligations.QueuedAccessBecomesEntry : Prop :=
  ∀ (s : State) (r : HostRequest) (sp : Space) (n : SlotNo) (c : Claim) (p : Port) (a : Attributes) (k : EntryNo),
    Routed s r sp → n ≠ 0 → s.claim n = some c → Covers c sp r.address.toNat → atOnceStatus s c = none →
    (c.owner = .route p a ∨ ∃ h i, c.owner = .board p h i a) → LowestFreePlace s k →
    let x := s.port p
    let queued : PortRecord := { x with issueList := x.issueList ++ [k], dozeIdleTimer := s.idleOf x }
    let t := ((s.setEntry k (some (entryFor r sp n p a))).setClaim n (some { c with inFlight := c.inFlight + 1 })).setPort p
      queued.afterWakeCause
    exec (.hostRequest r) s = .next
      (if requestKind r = 2 ∧ a.posting = .posted then t.answered (requestTag r) .ok [] else t)

/-- R58: the pieces of an entry, of a length and a unit width that are powers of two: how many, how wide, where, and with which bytes
of the write data; each is aligned to its width, and together they are the data. -/
def Obligations.PiecesDivideAccess : Prop :=
  ∀ (e : Entry) (i j : Nat), e.length = 2 ^ i → e.width = 2 ^ j → e.address % e.length = 0 →
    (e.width < e.length → pieceCount e.length e.width = e.length / e.width ∧ e.pieceWidth = e.width) ∧
    (e.length ≤ e.width → pieceCount e.length e.width = 1 ∧ e.pieceWidth = e.length) ∧
    pieceCount e.length e.width * e.pieceWidth = e.length ∧
    ∀ k, k < pieceCount e.length e.width →
      e.pieceAddress k = e.address + k * e.pieceWidth ∧ e.pieceAddress k % e.pieceWidth = 0 ∧
      (e.data.length = e.length → e.pieceData k = (e.data.drop (k * e.pieceWidth)).take e.pieceWidth ∧
        (e.pieceData k).length = e.pieceWidth ∧
        ((List.range (pieceCount e.length e.width)).flatMap e.pieceData) = e.data)

/-! ### The window -/

/-- R59, R60: a window READ returns the addressed bytes of each word as it stands, and changes nothing else. -/
def Obligations.WindowReadReturnsRegisterBytes : Prop :=
  ∀ (s : State) (r : HostRequest) (offset : Nat), HostReady s (requestTag r) → requestKind r = 1 → requestSpace r = 1 →
    requestLength r ∈ [1, 2, 4, 8] → r.data = [] → offset < 0x1000 → r.address.toNat = windowBase s.winsel + offset →
    offset % requestLength r = 0 →
    exec (.hostRequest r) s = .next (s.answered (requestTag r) .ok
      ((List.range (requestLength r)).map fun i =>
        wordByte (s.readRegister (registerAt ((offset + i) / 4 * 4))) ((offset + i) % 4)))

/-- Section 10.6, R116, R152, R176, R183: what each word of the window shows, and that every other word reads zero. -/
def Obligations.WindowMapShowsState : Prop :=
  ∀ s : State,
    let word (offset : Nat) : Word := s.readRegister (registerAt offset)
    word 0x000 = 0xCD8 ∧ word 0x004 = 1 ∧
    word 0x040 = s.command.code ∧ word 0x044 = s.command.arg0 ∧ word 0x048 = s.command.arg1 ∧ word 0x04C = s.command.arg2 ∧
    word 0x050 = s.command.arg3 ∧ word 0x054 = 0 ∧
    word 0x058 = (match s.slotState with | .idle => 0 | .busy => 1 | .done => 2) ∧
    word 0x060 = s.result.status ∧ word 0x064 = s.result.word0 ∧ word 0x068 = s.result.word1 ∧ word 0x06C = s.result.word2 ∧
    word 0x070 = s.result.word3 ∧
    word 0x100 = s.globalFlags.setWidth 32 ∧
    (∀ b : Nat, (word 0x104).getLsbD b =
      if b < 3 then s.maskGlobal.getLsbD b else if 8 ≤ b ∧ b < 20 then s.maskPort.getLsbD (b - 8) else false) ∧
    (∀ p : Port, word (0x110 + 4 * p.val) = (s.port p).flags.setWidth 32) ∧
    ((∀ p : Port, (s.port p).notice = none) → word 0x140 = 0) ∧
    (∀ (p : Port) (code : Byte), (s.port p).notice = some code → (∀ q : Port, q < p → (s.port q).notice = none) →
      word 0x140 = BitVec.ofNat 32 (code.toNat + p.val * 0x100 + 0x80000000)) ∧
    word 0x144 = 0 ∧
    (∀ p : Port, word (0x200 + 0x10 * p.val) = BitVec.ofNat 32 ((s.port p).state.code + (s.port p).credit * 0x100 +
        (if (s.port p).holdTimer.isSome then 0x10000 else 0) + (if (s.port p).identity.isSome then 0x20000 else 0)) ∧
      word (0x204 + 0x10 * p.val) = (s.port p).identity.getD 0 ∧
      word (0x208 + 0x10 * p.val) = BitVec.ofNat 32 ((s.port p).claimCount + (s.port p).quota * 0x100) ∧
      word (0x20C + 0x10 * p.val) = BitVec.ofNat 32 (s.port p).holdTime) ∧
    word 0x300 = BitVec.ofNat 32 s.completionTimeout ∧ word 0x304 = BitVec.ofNat 32 s.dozeIdleTime ∧
    word 0x308 = BitVec.ofNat 32 s.realignLimit ∧ word 0x310 = BitVec.ofNat 32 s.memPool.first ∧
    word 0x314 = BitVec.ofNat 32 s.memPool.last ∧ word 0x318 = BitVec.ofNat 32 s.ioPool.first ∧
    word 0x31C = BitVec.ofNat 32 s.ioPool.last ∧
    ∀ k : Nat, k < 0x400 → 4 * k ∉ [0x000, 0x004, 0x040, 0x044, 0x048, 0x04C, 0x050, 0x058, 0x060, 0x064, 0x068, 0x06C, 0x070, 0x100,
      0x104, 0x140, 0x300, 0x304, 0x308, 0x310, 0x314, 0x318, 0x31C] → (4 * k < 0x110 ∨ 0x130 ≤ 4 * k) →
      (4 * k < 0x200 ∨ 0x280 ≤ 4 * k) → word (4 * k) = 0

/-- The bit a lane writes at place `b` of its word, if it addresses it (R59). -/
def laneBit : WordLane → Nat → Option Bool
  | .byte i v, b => if 8 * i.val ≤ b ∧ b < 8 * i.val + 8 then some (v.getLsbD (b - 8 * i.val)) else none
  | .half i v, b => if 16 * i.val ≤ b ∧ b < 16 * i.val + 16 then some (v.getLsbD (b - 16 * i.val)) else none
  | .word v, b => if b < 32 then some (v.getLsbD b) else none

/-- A word after a lane is written over it (R61). -/
def Overwritten (old new : Word) (l : WordLane) : Prop :=
  ∀ b, b < 32 → new.getLsbD b = (laneBit l b).getD (old.getLsbD b)

/-- The offsets of the words that a plain write changes nothing of: read-only or not assigned (R61, R149, section 10.6). -/
def ignoresWrites (offset : Nat) : Prop :=
  let word := offset / 4 * 4
  (word < 0x040 ∨ 0x058 ≤ word) ∧ word ≠ 0x100 ∧ word ≠ 0x104 ∧ (word < 0x110 ∨ 0x130 ≤ word) ∧ word ≠ 0x144

/-- R61, R150: WINDOW_WRITE stores the bytes written in the command record's word and leaves the others, acts on both words of
an 8-byte write, the lower first, is ignored elsewhere, and is answered OK. -/
def Obligations.WindowWriteStoresRecordBytes : Prop :=
  ∀ (s : State) (tag : HostTag), HostReady s tag →
    (∀ (i : Fin 5) (l : WordLane), ∃ v, Overwritten (s.command.get i) v l ∧
      exec (.windowWrite tag (BitVec.ofNat 12 (0x040 + 4 * i.val + l.offset)) l.bytes) s =
        .next (State.answered { s with command := s.command.put i v } tag .ok [])) ∧
    (∀ (offset : BitVec 12) (v u : Word), offset.toNat % 8 = 0 →
      exec (.windowWrite tag offset (wordBytes v ++ wordBytes u)) s =
        .next (((s.writeRegister (registerAt offset.toNat) 0xFFFFFFFF v).writeRegister (registerAt (offset.toNat + 4)) 0xFFFFFFFF
          u).answered tag .ok [])) ∧
    (∀ (offset : BitVec 12) (data : List Byte), data.length ∈ [1, 2, 4, 8] → offset.toNat % data.length = 0 →
      ignoresWrites offset.toNat → ignoresWrites (offset.toNat + data.length - 1) →
      exec (.windowWrite tag offset data) s = .next (s.answered tag .ok []))

/-- R171: FLAG_CLEAR clears each flag written with 1 and leaves the others; ATTN follows; nothing else changes. -/
def Obligations.FlagClearClearsFlagsWrittenOne : Prop :=
  ∀ (s : State) (tag : HostTag) (l : WordLane), HostReady s tag →
    (∃ v : BitVec 3, (∀ b, b < 3 → v.getLsbD b = (s.globalFlags.getLsbD b && decide (laneBit l b ≠ some true))) ∧
      exec (.flagClear tag .global l) s = .next ((State.driveAttn { s with globalFlags := v }).answered tag .ok [])) ∧
    (∀ p : Port, ∃ v : BitVec 12,
      (∀ b, b < 12 → v.getLsbD b = ((s.port p).flags.getLsbD b && decide (laneBit l b ≠ some true))) ∧
      exec (.flagClear tag (.port p) l) s = .next ((s.portBecomes p { s.port p with flags := v }).answered tag .ok []))

/-- R172: MASK_WRITE replaces the marks in the bytes written; ATTN follows; nothing else changes. -/
def Obligations.MaskWriteReplacesMarks : Prop :=
  ∀ (s : State) (tag : HostTag) (l : WordLane), HostReady s tag →
    ∃ (v : BitVec 3) (u : BitVec 12),
      (∀ b, b < 3 → v.getLsbD b = (laneBit l b).getD (s.maskGlobal.getLsbD b)) ∧
      (∀ b, b < 12 → u.getLsbD b = (laneBit l (8 + b)).getD (s.maskPort.getLsbD b)) ∧
      exec (.maskWrite tag l) s = .next ((State.driveAttn { s with maskGlobal := v, maskPort := u }).answered tag .ok [])

/-- The port number a write to the notice-acknowledge register carries, if it addresses byte 0 (R177). -/
def acknowledgedPort : WordLane → Option Nat
  | .byte i v => if i.val = 0 then some v.toNat else none
  | .half i v => if i.val = 0 then some (v.toNat % 0x100) else none
  | .word v => some (v.toNat % 0x100)

/-- R177: an acknowledgement by the state of the named port, and a write that is none. -/
def Obligations.NoticeAcknowledgeOwesOneAck : Prop :=
  ∀ (s : State) (tag : HostTag) (l : WordLane), HostReady s tag →
    ((∀ p : Port, acknowledgedPort l ≠ some p.val) → exec (.noticeAcknowledge tag l) s = .next (s.answered tag .ok [])) ∧
    (∀ p : Port, acknowledgedPort l = some p.val →
      let x := s.port p
      (x.notice = none → exec (.noticeAcknowledge tag l) s = .next (s.answered tag .ok [])) ∧
      (x.notice ≠ none → x.noticeAckOwed = true →
        exec (.noticeAcknowledge tag l) s = .next ((s.setPort p { x with notice := none }).answered tag .ok [])) ∧
      (x.notice ≠ none → x.noticeAckOwed = false → x.state.linked = true →
        exec (.noticeAcknowledge tag l) s =
          .next ((s.setPort p (PortRecord.owing { x with notice := none, noticeAckOwed := true } .noticeAck)).answered tag .ok [])))

/-! ### The command slot -/

/-- R153: an issue write while the slot is BUSY, under every row and in every form: CMD_OVERRUN, the record word the same access
wrote, and nothing else. That the row does not matter then is the model's choice (log 11). -/
def Obligations.IssueWhileBusyRaisesOverrun : Prop :=
  ∀ (s : State) (tag : HostTag) (w : IssueWrite) (c : Option HostCommand), HostReady s tag → s.slotState = .busy →
    exec (issueRowOf c tag w) s = .next
      ((State.driveAttn { s with command := recordFound w s.command, globalFlags := s.globalFlags ||| 2 }).answered tag .ok [])

/-- The checks of R154 on the arguments of a command (section 10.4). -/
def ArgumentOutOfRange (c : HostCommand) (r : CommandRecord) : Prop :=
  let a0 := r.arg0.toNat
  let a1 := r.arg1.toNat
  let a2 := r.arg2.toNat
  match c with
  | .hostClaim =>
    let kind := a0 / 0x100 % 0x100
    let posting := r.arg3.toNat / 0x100 % 4
    let wake := r.arg3.toNat / 0x10000 % 4
    (kind ≠ 1 ∧ kind ≠ 2) ∨ (kind = 1 ∧ ((posting ≠ 1 ∧ posting ≠ 2) ∨ (wake ≠ 1 ∧ wake ≠ 2)))
  | .hostRetire | .revoke => 63 < a0
  | .readClaim => 63 < a0 ∨ 1 < a1
  | .find => (a0 ≠ 1 ∧ a0 ≠ 2) ∨ (a0 = 2 ∧ 0xFFFF < a1)
  | .portEnable | .portDisable | .portReset | .portRetrain | .portSleep | .portWake => 7 < a0
  | .setQuota => 7 < a0 ∨ 16 < a1
  | .setHold => 7 < a0 ∨ 60000 < a1
  | .setPool =>
    (a0 ≠ 1 ∧ a0 ≠ 2) ∨
      (a0 = 1 ∧ (a1 % 4096 ≠ 0 ∨ (a2 + 1) % 4096 ≠ 0 ∨ a2 < a1)) ∨
      (a0 = 2 ∧ (a1 % 16 ≠ 0 ∨ (a2 + 1) % 16 ≠ 0 ∨ a2 < a1 ∨ 0xFFFF < a2))
  | .setTiming =>
    (a0 ≠ 1 ∧ a0 ≠ 2 ∧ a0 ≠ 3) ∨ (a0 = 1 ∧ (a1 < 100 ∨ 65000 < a1)) ∨ (a0 = 2 ∧ 65000 < a1) ∨ (a0 = 3 ∧ (a1 < 1 ∨ 7 < a1))

/-- R154: a code that names no command, and an argument out of its range, finish the command and change nothing else; a command
whose arguments are in range proceeds by its own rule. -/
def Obligations.CodeAndArgumentsJudgedFirst : Prop :=
  ∀ (s : State) (tag : HostTag) (w : IssueWrite) (r : CommandRecord), IssueReady s tag w r →
    (r.code.toNat = 0 ∨ 15 < r.code.toNat →
      exec (.badCommand tag w) s = .next (((s.issued w).concluded 3 0 0 0 0).answered tag .ok [])) ∧
    ∀ c : HostCommand, r.code.toNat = c.code →
      (ArgumentOutOfRange c r → exec (issueRowOf (some c) tag w) s = .next (((s.issued w).concluded 4 0 0 0 0).answered tag .ok [])) ∧
      (¬ ArgumentOutOfRange c r →
        exec (issueRowOf (some c) tag w) s = .next (((s.issued w).perform c).answered tag .ok []))

/-! ### Commands on claims -/

/-- The arguments of HOST_CLAIM (section 10.4): space, owner, explicit base, size, and the width recorded for kind ROUTE. -/
def HostClaimAsks (r : CommandRecord) (sp : Space) (o : Owner) (base : Option Nat) (size : Nat) (width : Option Nat) : Prop :=
  let kind := r.arg0.toNat / 0x100 % 0x100
  let posting := r.arg3.toNat / 0x100 % 4
  let wake := r.arg3.toNat / 0x10000 % 4
  r.arg0.toNat % 0x100 = Space.code sp ∧ base = explicitBase (r.arg3.getLsbD 0) r.arg1 ∧ size = r.arg2.toNat ∧
    ((kind = 2 ∧ o = .fence ∧ width = none) ∨
      (kind = 1 ∧ width = some (r.arg0.toNat / 0x1000000) ∧ ∃ (p : Port) (g : Posting) (k : WakePolicy),
        p.val = r.arg0.toNat / 0x10000 % 0x100 ∧ posting = (match g with | .nonposted => 1 | .posted => 2) ∧
        wake = (match k with | .wake => 1 | .nowake => 2) ∧ o = .route p ⟨r.arg0.toNat / 0x1000000, g, k⟩))

/-- R158: a HOST_CLAIM that passes every check is admitted LIVE in the lowest FREE slot, and finishes DONE with slot, base and size;
no message becomes owed and no CLAIM_CHANGE is raised. -/
def Obligations.HostClaimAdmitsHostOwner : Prop :=
  ∀ (s : State) (tag : HostTag) (w : IssueWrite) (r : CommandRecord) (sp : Space) (o : Owner) (base : Option Nat) (size : Nat)
    (width : Option Nat) (n : SlotNo) (b : Nat), IssueReady s tag w r → r.code.toNat = 1 → HostClaimAsks r sp o base size width →
    GoodShape sp base size width → LowestFreeSlot s n → RoomFor s sp base size none b →
    exec (.hostClaim tag w) s = .next
      ((((s.issued w).setClaim n
        (some { owner := o, space := sp, base := b, size := size, phase := .live, inFlight := 0 })).concluded 1
          (BitVec.ofNat 32 n.val) (BitVec.ofNat 32 b) (BitVec.ofNat 32 size) 0).answered tag .ok [])

/-- R158: the checks of HOST_CLAIM in their order; a refused one changes nothing. -/
def Obligations.HostClaimRefusedInOrder : Prop :=
  ∀ (s : State) (tag : HostTag) (w : IssueWrite) (r : CommandRecord), IssueReady s tag w r → r.code.toNat = 1 →
    ¬ ArgumentOutOfRange .hostClaim r →
    let refused (reason : Word) : Prop :=
      exec (.hostClaim tag w) s = .next (((s.issued w).concluded 2 reason 0 0 0).answered tag .ok [])
    let kind := r.arg0.toNat / 0x100 % 0x100
    let width : Option Nat := if kind = 1 then some (r.arg0.toNat / 0x1000000) else none
    let base := explicitBase (r.arg3.getLsbD 0) r.arg1
    let size := r.arg2.toNat
    ((∀ sp, r.arg0.toNat % 0x100 = Space.code sp → ¬ GoodShape sp base size width) → refused 1) ∧
    ∀ sp, r.arg0.toNat % 0x100 = Space.code sp → GoodShape sp base size width →
      (kind = 1 ∧ 7 < r.arg0.toNat / 0x10000 % 0x100 → refused 10) ∧
      (¬ (kind = 1 ∧ 7 < r.arg0.toNat / 0x10000 % 0x100) →
        (NoFreeSlot s → refused 7) ∧
        (¬ NoFreeSlot s → (NoRoomFor s sp base size none .overlap → refused 8) ∧ (NoRoomFor s sp base size none .noRoom → refused 9)))

/-- No entry is bound to the slot. -/
def NothingBound (s : State) (n : SlotNo) : Prop :=
  ∀ k : EntryNo, ∀ e, s.entry k = some e → e.slot ≠ n

/-- R159: HOST_RETIRE judges the slot in its order; a LIVE host claim with nothing in flight is FREE within the issue write. -/
def Obligations.HostRetireJudgesSlot : Prop :=
  ∀ (s : State) (tag : HostTag) (w : IssueWrite) (r : CommandRecord) (n : SlotNo), IssueReady s tag w r → r.code.toNat = 2 →
    r.arg0.toNat = n.val →
    let refused (reason : Word) : Prop :=
      exec (.hostRetire tag w) s = .next (((s.issued w).concluded 2 reason 0 0 0).answered tag .ok [])
    (n = 0 → refused 13) ∧ (n ≠ 0 → s.claim n = none → refused 14) ∧
    ∀ c, n ≠ 0 → s.claim n = some c →
      (c.isBoard = true → refused 11) ∧
      ((c.owner = .fence ∨ ∃ p a, c.owner = .route p a) → c.phase = .live → c.inFlight = 0 → NothingBound s n →
        exec (.hostRetire tag w) s =
          .next ((((s.issued w).setClaim n none).concluded 1 (BitVec.ofNat 32 n.val) 0 0 0).answered tag .ok []))

/-- The record of a port after one of its board claims became FREE (R11, R12). -/
def countedOut (x : PortRecord) : PortRecord :=
  { x with claimCount := x.claimCount - 1, flags := x.flags ||| 0x40 }

/-- R160, R145: REVOKE judges the slot in its order; a DRAINING claim is ALREADY_RETIRING; an ORPHANED one is retired at once and its
port's hold timer stops with the last orphan; a LIVE or RESHAPING one with nothing in flight is FREE within the issue write, and
REVOKED is owed. -/
def Obligations.RevokeJudgesSlot : Prop :=
  ∀ (s : State) (tag : HostTag) (w : IssueWrite) (r : CommandRecord) (n : SlotNo), IssueReady s tag w r → r.code.toNat = 3 →
    r.arg0.toNat = n.val →
    let ends (status word0 : Word) (t : State) : Prop :=
      exec (.revoke tag w) s = .next ((t.concluded status word0 0 0 0).answered tag .ok [])
    let i := s.issued w
    (n = 0 → ends 2 13 i) ∧ (n ≠ 0 → s.claim n = none → ends 2 14 i) ∧
    ∀ c, n ≠ 0 → s.claim n = some c →
      ((c.owner = .fence ∨ ∃ p a, c.owner = .route p a) → ends 2 12 i) ∧
      ∀ p h y a, c.owner = .board p h y a →
        (∀ cause, c.phase = .draining cause → ends 5 0 i) ∧
        (c.phase = .orphaned →
          (∀ m d, m ≠ n → s.claim m = some d → d.isOrphanOf p = false) →
          ends 1 (BitVec.ofNat 32 n.val) ((i.setClaim n none).setPort p { countedOut (s.port p) with holdTimer := none })) ∧
        (c.phase = .orphaned → (∃ m d, m ≠ n ∧ s.claim m = some d ∧ d.isOrphanOf p = true) →
          ends 1 (BitVec.ofNat 32 n.val) ((i.setClaim n none).setPort p (countedOut (s.port p)))) ∧
        ((c.phase = .live ∨ ∃ b z, c.phase = .reshaping b z) → c.inFlight = 0 → NothingBound s n → (s.port p).state.linked = true →
          ends 1 (BitVec.ofNat 32 n.val) ((i.setClaim n none).setPort p (countedOut ((s.port p).owing (.revoked h)))))

/-- The presence marks of a record (section 10.5). -/
def presenceMarks (c : Claim) : Nat :=
  (match c.owner with
    | .fixed => 0x01
    | .fence => 0x03
    | .route _ _ => 0x27
    | .board _ _ _ _ => 0x3D) +
  (match c.phase with
    | .reshaping _ _ => 0x40
    | .draining _ => 0x80
    | .live | .orphaned => 0)

/-- The value of the `width` bits of a word from bit `low` upward. -/
def bitsOf (v : Word) (low width : Nat) : Nat :=
  v.toNat / 2 ^ low % 2 ^ width

/-- The fields of a claim descriptor (section 10.5, R183): an absent field reads zero. -/
def DescriptorShows (d : Word) (c : Claim) : Prop :=
  bitsOf d 0 8 = presenceMarks c ∧
  bitsOf d 8 3 = (match c.phase with | .live => 1 | .reshaping _ _ => 2 | .draining _ => 3 | .orphaned => 4) ∧
  bitsOf d 11 2 = (match c.owner with | .fixed => 1 | .fence | .route _ _ => 2 | .board _ _ _ _ => 3) ∧
  bitsOf d 13 2 = (match c.owner with | .route _ _ => 1 | .fence => 2 | .fixed | .board _ _ _ _ => 0) ∧
  bitsOf d 15 1 = 0 ∧ bitsOf d 16 2 = Space.code c.space ∧ bitsOf d 31 1 = 0 ∧
  (match c.owner with
    | .fixed | .fence => bitsOf d 18 13 = 0
    | .route p a | .board p _ _ a =>
      bitsOf d 18 3 = p.val ∧ bitsOf d 25 4 = a.width ∧ bitsOf d 29 1 = (if a.posting = .posted then 1 else 0) ∧
        bitsOf d 30 1 = (if a.wake = .nowake then 1 else 0)) ∧
  bitsOf d 21 4 = (match c.owner with | .board _ h _ _ => h.val | .fixed | .fence | .route _ _ => 0)

/-- R161, R183: READ_CLAIM of either part of any slot: a FREE record reads zero, any other shows its fields; the command changes
nothing else. -/
def Obligations.ReadClaimReturnsImage : Prop :=
  ∀ (s : State) (tag : HostTag) (w : IssueWrite) (r : CommandRecord) (n : SlotNo) (part : Nat), IssueReady s tag w r →
    r.code.toNat = 4 → r.arg0.toNat = n.val → r.arg1.toNat = part → part ≤ 1 → WidthLaw s →
    (s.claim n = none →
      exec (.readClaim tag w) s = .next (((s.issued w).concluded 1 0 0 0 0).answered tag .ok [])) ∧
    ∀ c, s.claim n = some c → ∃ d : Word, DescriptorShows d c ∧
      exec (.readClaim tag w) s = .next
        ((if part = 0 then
            (s.issued w).concluded 1 d (BitVec.ofNat 32 c.base) (BitVec.ofNat 32 c.size)
              (match c.owner with | .board _ _ y _ => y | .fixed | .fence | .route _ _ => 0)
          else
            (s.issued w).concluded 1 d
              (match c.phase with | .reshaping b _ => BitVec.ofNat 32 b | .live | .draining _ | .orphaned => 0)
              (match c.phase with | .reshaping _ z => BitVec.ofNat 32 z | .live | .draining _ | .orphaned => 0)
              (BitVec.ofNat 32 (c.inFlight % 64 +
                (match c.phase with
                  | .draining .release => 0x100
                  | .draining .revoke => 0x200
                  | .draining .hostRetire => 0x300
                  | .live | .reshaping _ _ | .orphaned => 0)))).answered tag .ok [])

/-- R162, R21: FIND returns the slot and the state of the claim that covers the address, or 0xFFFF_FFFF. -/
def Obligations.FindReturnsCoveringSlot : Prop :=
  ∀ (s : State) (tag : HostTag) (w : IssueWrite) (r : CommandRecord) (sp : Space), IssueReady s tag w r → r.code.toNat = 5 →
    r.arg0.toNat = Space.code sp → r.arg1.toNat ≤ Space.lastAddress sp → OverlapLaw s →
    ((∀ n : SlotNo, ∀ c, s.claim n = some c → ¬ Covers c sp r.arg1.toNat) →
      exec (.find tag w) s = .next (((s.issued w).concluded 1 0xFFFFFFFF 0 0 0).answered tag .ok [])) ∧
    ∀ n : SlotNo, ∀ c, s.claim n = some c → Covers c sp r.arg1.toNat →
      exec (.find tag w) s = .next
        (((s.issued w).concluded 1 (BitVec.ofNat 32 n.val)
          (match c.phase with | .live => 1 | .reshaping _ _ => 2 | .draining _ => 3 | .orphaned => 4) 0 0).answered tag .ok [])

/-! ### Settings -/

/-- R20, R165, R166, R167, R168: the four settings commands store their value and return it; SET_QUOTA below the claim count is
refused; a doze idle time of 0 stops every doze idle timer (R118). -/
def Obligations.SettingsCommandsStore : Prop :=
  ∀ (s : State) (tag : HostTag) (w : IssueWrite) (r : CommandRecord), IssueReady s tag w r →
    let i := s.issued w
    (∀ p : Port, r.code.toNat = 12 → r.arg0.toNat = p.val → r.arg1.toNat ≤ 16 →
      ((s.port p).claimCount ≤ r.arg1.toNat → exec (.setQuota tag w) s = .next
        (((i.setPort p { s.port p with quota := r.arg1.toNat }).concluded 1 r.arg1 0 0 0).answered tag .ok [])) ∧
      (r.arg1.toNat < (s.port p).claimCount →
        exec (.setQuota tag w) s = .next ((i.concluded 2 17 0 0 0).answered tag .ok []))) ∧
    (∀ p : Port, r.code.toNat = 13 → r.arg0.toNat = p.val → r.arg1.toNat ≤ 60000 →
      exec (.setHold tag w) s = .next
        (((i.setPort p { s.port p with holdTime := r.arg1.toNat }).concluded 1 r.arg1 0 0 0).answered tag .ok [])) ∧
    (r.code.toNat = 14 → ¬ ArgumentOutOfRange .setPool r →
      exec (.setPool tag w) s = .next
        ((State.concluded
          (if r.arg0.toNat = 1 then { i with memPool := ⟨r.arg1.toNat, r.arg2.toNat⟩ }
            else { i with ioPool := ⟨r.arg1.toNat, r.arg2.toNat⟩ }) 1 r.arg1 r.arg2 0 0).answered tag .ok [])) ∧
    (r.code.toNat = 15 → ¬ ArgumentOutOfRange .setTiming r →
      (r.arg0.toNat = 1 → exec (.setTiming tag w) s = .next
        ((State.concluded { i with completionTimeout := r.arg1.toNat } 1 r.arg1 0 0 0).answered tag .ok [])) ∧
      (r.arg0.toNat = 2 → r.arg1 ≠ 0 → exec (.setTiming tag w) s = .next
        ((State.concluded { i with dozeIdleTime := r.arg1.toNat } 1 r.arg1 0 0 0).answered tag .ok [])) ∧
      (r.arg0.toNat = 2 → r.arg1 = 0 → exec (.setTiming tag w) s = .next
        ((State.concluded
          { i with dozeIdleTime := 0, ports := s.ports.map fun x => { x with dozeIdleTimer := none } } 1 0 0 0 0).answered
            tag .ok [])) ∧
      (r.arg0.toNat = 3 → exec (.setTiming tag w) s = .next
        ((State.concluded { i with realignLimit := r.arg1.toNat } 1 r.arg1 0 0 0).answered tag .ok [])))

/-! ### Ports and sessions -/

/-- R93, R94, R113, R114, R163: PORT_ENABLE, the end of reset signalling, a partner that appears, and the entry into GREET.
That they put an end to the tags whose COMPLETE is stray after the end of a session is the model's choice, log 22.
Where a happening cannot be taken, nothing changes: the model's choice, log 2. -/
def Obligations.PortStartsListeningAndGreeting : Prop :=
  ∀ (s : State) (p : Port),
    let x := s.port p
    let noTags : Vector Bool 8 := Vector.replicate 8 false
    let greeting (y : PortRecord) : PortRecord := { y with state := .greet, greetTimer := some 20000, sendSeq := 0, endedTags := noTags }
    (∀ tag w r, IssueReady s tag w r → r.code.toNat = 6 → r.arg0.toNat = p.val →
      (x.state = .off ∨ x.state = .fault → exec (.portEnable tag w) s = .next
        ((((s.issued w).setPort p { x with state := .listen, greetFailures := 0, endedTags := noTags }).concluded 1 0 0 0 0).answered
          tag .ok [])) ∧
      (x.state ≠ .off → x.state ≠ .fault →
        exec (.portEnable tag w) s = .next (((s.issued w).concluded 2 15 0 0 0).answered tag .ok []))) ∧
    (x.state = .resetting → x.resetTimer ≠ none → exec (.resetSignallingTimerExpiry p) s =
      .next ((s.setPort p { x with state := .listen, resetTimer := none, endedTags := noTags }).ends 8 p 1)) ∧
    (x.state ≠ .resetting ∨ x.resetTimer = none → exec (.resetSignallingTimerExpiry p) s = .next s) ∧
    (x.present = false → x.state = .listen →
      exec (.presenceAppears p) s = .next (s.setPort p (greeting { x with present := true }))) ∧
    (x.present = false → x.state ≠ .listen → exec (.presenceAppears p) s = .next (s.setPort p { x with present := true })) ∧
    (x.present = true → exec (.presenceAppears p) s = .next s) ∧
    (x.state = .listen → x.present = true → exec (.greetEntry p) s = .next (s.setPort p (greeting x))) ∧
    (x.state ≠ .listen ∨ x.present = false → exec (.greetEntry p) s = .next s)

/-- R86, R112, R113, R163: PORT_DISABLE and PORT_RESET end the session of a port; its entries end LINK_DOWN, its board claims are
FREE, PORT_RESET stays BUSY. -/
def Obligations.DisableAndResetEndSession : Prop :=
  ∀ (s : State) (p : Port) (tag : HostTag) (w : IssueWrite) (r : CommandRecord), IssueReady s tag w r → r.arg0.toNat = p.val →
    let x := s.port p
    let i := s.issued w
    (r.code.toNat = 7 →
      (x.state = .off → exec (.portDisable tag w) s = .next ((i.concluded 1 0 0 0 0).answered tag .ok [])) ∧
      (x.state ≠ .off → EntriesSound s →
        exec (.portDisable tag w) s = .next (((i.shut p .off none).concluded 1 0 0 0 0).answered tag .ok []))) ∧
    (r.code.toNat = 8 →
      (x.state = .off → exec (.portReset tag w) s = .next ((i.concluded 2 15 0 0 0).answered tag .ok [])) ∧
      (x.state ≠ .off → EntriesSound s →
        exec (.portReset tag w) s = .next ((i.shut p .resetting (some 1000)).answered tag .ok [])))

/-- The port and the sequence number of a message a board sends with a right check value (R96). -/
def messageNumber : Instr → Option (Port × Byte)
  | .hello p seq _ | .unknownMessage p seq | .alignAck p seq _ | .claim p seq _ | .reshape p seq _ | .release p seq _
  | .complete p seq _ | .dozeAck p seq | .dozeNak p seq | .sleepReq p seq | .sleepAck p seq | .sleepNak p seq | .wake p seq
  | .wakeAck p seq | .notice p seq _ => some (p, seq)
  | .powerOnReset _ | .hostLinkUp | .hostLinkReset | .hostRequest _ | .completionSend | .windowWrite _ _ _ | .flagClear _ _ _
  | .maskWrite _ _ | .noticeAcknowledge _ _ | .badCommand _ _ | .hostClaim _ _ | .hostRetire _ _ | .revoke _ _ | .readClaim _ _
  | .find _ _ | .portEnable _ _ | .portDisable _ _ | .portReset _ _ | .portRetrain _ _ | .portSleep _ _ | .portWake _ _
  | .setQuota _ _ | .setHold _ _ | .setPool _ _ | .setTiming _ _ | .presenceAppears _ | .presenceLost _ | .greetEntry _
  | .greetTimerExpiry _ | .badCheckMessage _ | .attemptTimerExpiry _ | .resetSignallingTimerExpiry _ | .takeClaim _ | .takeReshape _
  | .takeRelease _ | .owedMessageSend _ | .pieceIssue _ | .completionTimerExpiry _ | .holdTimerExpiry _ | .dozeIdleTimerExpiry _
  | .handshakeAnswerTimerExpiry _ | .wakeExitTimerExpiry _ => none

/-- R85, R96, R102, R103, R121, R134, R164: every link error of the linked states and PORT_RETRAIN enter REALIGN, with the same
effect on the port, its handshake, the command it ends and the entries with a piece issued.
Where a happening cannot be taken, nothing changes: the model's choice, log 2. -/
def Obligations.LinkErrorsEnterRealign : Prop :=
  ∀ (s : State) (p : Port), EntriesSound s →
    let x := s.port p
    (x.state.comparing → exec (.badCheckMessage p) s = .next (s.realigned p)) ∧
    (x.state.comparing → ∀ c seq, messageNumber c = some (p, seq) → seq ≠ x.recvSeq → exec c s = .next (s.realigned p)) ∧
    (x.state = .run → x.answerTimer ≠ none → exec (.handshakeAnswerTimerExpiry p) s = .next (s.realigned p)) ∧
    (x.state ≠ .run ∨ x.answerTimer = none → exec (.handshakeAnswerTimerExpiry p) s = .next s) ∧
    ∀ tag w r, IssueReady s tag w r → r.code.toNat = 9 → r.arg0.toNat = p.val →
      (x.state = .run → exec (.portRetrain tag w) s = .next (((s.issued w).realigned p).answered tag .ok [])) ∧
      (x.state ≠ .run → exec (.portRetrain tag w) s = .next (((s.issued w).concluded 2 15 0 0 0).answered tag .ok []))

/-- R82, R87, R130: the completion timer ends its entry TIMEOUT and the wake exit timer every entry of the port WAKE_FAIL, before the
port enters REALIGN.
Where a happening cannot be taken, nothing changes: the model's choice, log 2. -/
def Obligations.ExpiryEndsEntriesThenRealigns : Prop :=
  ∀ (s : State), EntriesSound s →
    (∀ (p : Port), let x := s.port p
      (x.state = .waking → x.wakeExitTimer ≠ none → exec (.wakeExitTimerExpiry p) s =
        .next (((s.afterEnd p (ofPort p) .wakeFail).ends 11 p 8).realigned p)) ∧
      (x.state ≠ .waking ∨ x.wakeExitTimer = none → exec (.wakeExitTimerExpiry p) s = .next s)) ∧
    (∀ (k : EntryNo) (e : Entry), s.entry k = some e →
      let t := s.afterEnd e.port (fun j _ => j == k) .timeout
      (e.timer ≠ none → (s.port e.port).state = .run → exec (.completionTimerExpiry k) s =
        .next ((t.portBecomes e.port ((t.port e.port).raising 0x080)).realigned e.port)) ∧
      (e.timer = none ∨ (s.port e.port).state ≠ .run → exec (.completionTimerExpiry k) s = .next s)) ∧
    (∀ k : EntryNo, s.entry k = none → exec (.completionTimerExpiry k) s = .next s)

/-- R105, R107: in REALIGN an attempt that fails sends ALIGN again or, at the attempt limit, loses the link; ALIGN_ACK with the identity
returns the port to RUN and ends PORT_RETRAIN, any other loses the link.
Where a happening cannot be taken, nothing changes: the model's choice, log 2. -/
def Obligations.RealignEndsInRunOrLinkLoss : Prop :=
  ∀ (s : State) (p : Port), EntriesSound s →
    let x := s.port p
    let failed : PortRecord := { x with realignAttempts := x.realignAttempts + 1 }
    let outcome : State :=
      if x.realignAttempts + 1 = x.realignLimit then (s.setPort p failed).lost p
      else s.setPort p { failed with sent := x.sent ++ [⟨0, .align p⟩], attemptTimer := some 2000 }
    (x.state = .realign →
      exec (.badCheckMessage p) s = .next outcome ∧
      (x.attemptTimer ≠ none → exec (.attemptTimerExpiry p) s = .next outcome) ∧
      ∀ seq y,
        (x.identity = some y → exec (.alignAck p seq y) s = .next
          ((s.setPort p (s.timed
            { x with state := .run, attemptTimer := none, realignAttempts := 0, recvSeq := seq + 1, sendSeq := 1 })).ends 9 p 1)) ∧
        (x.identity ≠ some y → exec (.alignAck p seq y) s = .next (s.lost p))) ∧
    (x.state ≠ .realign ∨ x.attemptTimer = none → exec (.attemptTimerExpiry p) s = .next s)

/-- R93, R110, R137 to R139, R141: a partner that goes away, link loss, and the hold timer's expiry.
Where a happening cannot be taken, nothing changes: the model's choice, log 2. -/
def Obligations.PresenceLossOrphansClaims : Prop :=
  ∀ (s : State) (p : Port),
    let x := s.port p
    let alone := s.setPort p { x with present := false }
    (x.present = false → exec (.presenceLost p) s = .next s) ∧
    (x.present = true →
      (x.state = .greet → exec (.presenceLost p) s =
        .next (s.setPort p { x with present := false, state := .listen, greetTimer := none })) ∧
      (x.state.linked = true → EntriesSound s → exec (.presenceLost p) s = .next (alone.lost p)) ∧
      (x.state ∈ [.off, .listen, .resetting, .fault] → exec (.presenceLost p) s = .next alone)) ∧
    (x.holdTimer ≠ none →
      let t := s.freed p fun c => c.isOrphanOf p
      exec (.holdTimerExpiry p) s = .next (t.portBecomes p (PortRecord.raising { t.port p with holdTimer := none } 0x020))) ∧
    (x.holdTimer = none → exec (.holdTimerExpiry p) s = .next s)

/-- R99, R142, R143, R34, R144: a good HELLO opens the session, sends WELCOME and enters RUN; the port's orphans become LIVE where every
one of them has the identity, with a GRANT owed for each in ascending handle order, and are FREE otherwise. -/
def Obligations.GoodHelloOpensSession : Prop :=
  ∀ (s : State) (p : Port) (seq : Byte) (m : HelloMsg),
    let x := s.port p
    x.state = .greet → m.revision = 1 → 1 ≤ m.credit.toNat → m.credit.toNat ≤ 8 →
    let opened (resumed : Nat) : PortRecord :=
      { x with
        state := .run, identity := some m.identity, credit := m.credit.toNat, dozeCapable := m.dozeCapable, recvSeq := seq + 1
        greetTimer := none, holdTimer := none, greetFailures := 0, realignAttempts := 0
        sent := x.sent ++ [⟨x.sendSeq, .welcome p x.quota resumed⟩], sendSeq := x.sendSeq + 1 }
    let orphans := s.orphans p
    let same : Prop := m.identity ≠ 0 ∧ ∀ n ∈ orphans, ∀ c, s.claim n = some c → c.owner.identity = m.identity
    let grants := allHandles.filterMap fun h =>
      (orphans.find? fun n => (s.claim n).any fun c => c.carries p h).bind fun n =>
        (s.claim n).map fun c => OwedMessage.grant h n c.space c.base c.size
    let live : State :=
      { s with claims := s.claims.map fun (c : Option Claim) => c.map fun d =>
          if d.isOrphanOf p then { d with phase := .live } else d }
    let dropped := s.freed p fun c => c.isOrphanOf p
    (orphans = [] → exec (.hello p seq m) s = .next (s.portBecomes p ((s.timed (opened 0)).raising 0x001))) ∧
    (orphans ≠ [] → same → exec (.hello p seq m) s = .next
      (live.portBecomes p ((s.timed { opened orphans.length with owed := x.owed ++ grants }).raising 0x011))) ∧
    (orphans ≠ [] → ¬ same → exec (.hello p seq m) s = .next
      (dropped.portBecomes p ((s.timed { opened 0 with claimCount := (dropped.port p).claimCount }).raising 0x061)))

/-- R100: a greeting fails by a HELLO that is not good or by the greet timer; the fourth failure is FAULT.
Where a happening cannot be taken, nothing changes: the model's choice, log 2. -/
def Obligations.GreetFailureListensOrFaults : Prop :=
  ∀ (s : State) (p : Port),
    let x := s.port p
    let failed : PortRecord := { x with greetTimer := none, greetFailures := x.greetFailures + 1 }
    let outcome : State :=
      if x.greetFailures + 1 < 4 then s.setPort p { failed with state := .listen }
      else s.portBecomes p (PortRecord.raising { failed with state := .fault } 0x004)
    (x.state = .greet →
      (∀ seq m, ¬ (m.revision = 1 ∧ 1 ≤ m.credit.toNat ∧ m.credit.toNat ≤ 8) → exec (.hello p seq m) s = .next outcome) ∧
      (x.greetTimer ≠ none → exec (.greetTimerExpiry p) s = .next outcome)) ∧
    (x.state ≠ .greet ∨ x.greetTimer = none → exec (.greetTimerExpiry p) s = .next s)

/-- The power messages of a board (section 10.2). -/
def isPowerMessage : Instr → Prop
  | .dozeAck _ _ | .dozeNak _ _ | .sleepReq _ _ | .sleepAck _ _ | .sleepNak _ _ | .wake _ _ | .wakeAck _ _ => True
  | .hello _ _ _ | .unknownMessage _ _ | .alignAck _ _ _ | .claim _ _ _ | .reshape _ _ _ | .release _ _ _ | .complete _ _ _
  | .notice _ _ _ | .powerOnReset _ | .hostLinkUp | .hostLinkReset | .hostRequest _ | .completionSend | .windowWrite _ _ _
  | .flagClear _ _ _ | .maskWrite _ _ | .noticeAcknowledge _ _ | .badCommand _ _ | .hostClaim _ _ | .hostRetire _ _ | .revoke _ _
  | .readClaim _ _ | .find _ _ | .portEnable _ _ | .portDisable _ _ | .portReset _ _ | .portRetrain _ _ | .portSleep _ _
  | .portWake _ _ | .setQuota _ _ | .setHold _ _ | .setPool _ _ | .setTiming _ _ | .presenceAppears _ | .presenceLost _
  | .greetEntry _ | .greetTimerExpiry _ | .badCheckMessage _ | .attemptTimerExpiry _ | .resetSignallingTimerExpiry _ | .takeClaim _
  | .takeReshape _ | .takeRelease _ | .owedMessageSend _ | .pieceIssue _ | .completionTimerExpiry _ | .holdTimerExpiry _
  | .dozeIdleTimerExpiry _ | .handshakeAnswerTimerExpiry _ | .wakeExitTimerExpiry _ => False

/-- R76, R89, R95, R97, R180, R181: what a port drops, what raises PROTOCOL, and that a COMPLETE for a piece which the end of the session
ended is stray. That such a COMPLETE is stray, once for each piece, as long as the port stands in the closed state its session ended in,
and that every other message is dropped there, is the model's choice between row 3 of R89 and R95 (log 22). -/
def Obligations.MessagesOutOfPlaceDropOrRaiseProtocol : Prop :=
  ∀ (s : State) (p : Port),
    let x := s.port p
    let endedAt (t : PieceTag) : Bool := x.endedTags[t]
    (x.state ∈ [.off, .listen, .resetting, .fault] →
      exec (.badCheckMessage p) s = .next s ∧
      (∀ c seq, messageNumber c = some (p, seq) →
        (∀ m t, c = .complete p seq m → m.data.length ≤ 8 → t.val = m.tag.toNat → endedAt t = false) → exec c s = .next s) ∧
      ∀ seq m t, m.data.length ≤ 8 → t.val = m.tag.toNat → endedAt t = true → exec (.complete p seq m) s = .next
        (s.portBecomes p (PortRecord.raising { x with endedTags := x.endedTags.set t.val false } 0x200))) ∧
    (x.state = .greet → exec (.badCheckMessage p) s = .next s ∧ ∀ seq y, exec (.alignAck p seq y) s = .next s) ∧
    (x.state = .greet ∨ x.state = .realign → ∀ c seq, messageNumber c = some (p, seq) → isPowerMessage c → exec c s = .next s) ∧
    (∀ seq, Arrives s p seq → exec (.unknownMessage p seq) s = .next ((s.judged p).protocolRaised p)) ∧
    (∀ seq m, Arrives s p seq → x.state ≠ .greet → exec (.hello p seq m) s = .next ((s.judged p).protocolRaised p)) ∧
    (∀ y, x.state.comparing → exec (.alignAck p x.recvSeq y) s = .next (s.heard p))

/-! ### The board claim protocol -/

/-- The claim message that a command delivers (R25). -/
def deliversClaimMessage (p : Port) (seq : Byte) : ClaimMessage → Instr
  | .claim m => .claim p seq m
  | .reshape m => .reshape p seq m
  | .release h => .release p seq h

/-- R25: a claim message joins the claim receive list in RUN while it holds fewer than 16; any other raises PROTOCOL. -/
def Obligations.ClaimMessageJoinsReceiveList : Prop :=
  ∀ (s : State) (p : Port) (seq : Byte) (m : ClaimMessage), Arrives s p seq →
    let x := s.port p
    (x.state = .run → x.receiveList.length < 16 → exec (deliversClaimMessage p seq m) s =
      .next (s.setPort p { s.heardRecord p with receiveList := x.receiveList ++ [m] })) ∧
    (x.state ≠ .run ∨ 16 ≤ x.receiveList.length →
      exec (deliversClaimMessage p seq m) s = .next ((s.judged p).protocolRaised p))

/-- The claim protocol engine may take the port's first claim message (R26). -/
abbrev MayTake (s : State) (p : Port) (m : ClaimMessage) (rest : List ClaimMessage) : Prop :=
  (s.port p).state = .run ∧ (s.port p).receiveList = m :: rest ∧ ¬ OwedFor (s.port p) m.handle

/-- The command that takes a claim message. -/
def takes (p : Port) : ClaimMessage → Instr
  | .claim _ => .takeClaim p
  | .reshape _ => .takeReshape p
  | .release _ => .takeRelease p

/-- R26: no message is taken outside RUN, from an empty list, or while a message for its handle is owed; and the first message is
taken by its own command alone.
Where a happening cannot be taken, nothing changes: the model's choice, log 2. -/
def Obligations.TakingWaitsForItsTurn : Prop :=
  ∀ (s : State) (p : Port) (m : ClaimMessage),
    let x := s.port p
    (x.state ≠ .run → exec (takes p m) s = .next s) ∧ (x.receiveList = [] → exec (takes p m) s = .next s) ∧
    (∀ n rest, x.receiveList = n :: rest → OwedFor x n.handle ∨ takes p n ≠ takes p m → exec (takes p m) s = .next s)

/-- R7, R30: a CLAIM that passes every check is admitted LIVE in the lowest FREE slot, counted, granted, and CLAIM_CHANGE raised. -/
def Obligations.TakeClaimAdmitsClaim : Prop :=
  ∀ (s : State) (p : Port) (m : ClaimFields) (rest : List ClaimMessage) (sp : Space) (n : SlotNo) (b : Nat) (y : Word),
    MayTake s p (.claim m) rest →
    let x := s.port p
    let base := explicitBase m.any m.base
    let size := m.size.toNat
    x.identity = some y → m.spaceCode.toNat = Space.code sp → GoodShape sp base size (some m.width.toNat) →
    InPool (s.pool sp) base size → HandleUnused s p m.handle → x.claimCount ≠ x.quota → LowestFreeSlot s n →
    RoomFor s sp base size none b →
    exec (.takeClaim p) s = .next
      ((s.setClaim n (some
        { owner := .board p m.handle y ⟨m.width.toNat, if m.posted then .posted else .nonposted, if m.nowake then .nowake else .wake⟩
          space := sp, base := b, size := size, phase := .live, inFlight := 0 })).portBecomes p
        (PortRecord.raising
          { x with
            receiveList := rest, claimCount := x.claimCount + 1
            owed := x.owed ++ [.grant m.handle n sp b size] } 0x040))

/-- R28, R29: the checks of a CLAIM in their order, each refused by a REFUSE owed and nothing else. -/
def Obligations.TakeClaimRefusesInOrder : Prop :=
  ∀ (s : State) (p : Port) (m : ClaimFields) (rest : List ClaimMessage), MayTake s p (.claim m) rest →
    let x := s.port p
    let base := explicitBase m.any m.base
    let size := m.size.toNat
    let refused (r : Reason) : Prop :=
      exec (.takeClaim p) s = .next (s.setPort p { x with receiveList := rest, owed := x.owed ++ [.refuse m.handle r] })
    ((∀ sp, m.spaceCode.toNat = Space.code sp → ¬ GoodShape sp base size (some m.width.toNat)) → refused .badShape) ∧
    ∀ sp, m.spaceCode.toNat = Space.code sp → GoodShape sp base size (some m.width.toNat) →
      (¬ InPool (s.pool sp) base size → refused .outOfPool) ∧
      (InPool (s.pool sp) base size →
        (¬ HandleUnused s p m.handle → refused .handleBusy) ∧
        (HandleUnused s p m.handle →
          (x.claimCount = x.quota → refused .quota) ∧
          (x.claimCount ≠ x.quota →
            (NoFreeSlot s → refused .tableFull) ∧
            (¬ NoFreeSlot s → ∀ r, NoRoomFor s sp base size none r → refused r))))

/-- R8, R9, R28, R29, R31: the checks of a RESHAPE in their order; an accepted one with nothing in flight commits at once, with
accesses in flight it is RESHAPING, and the QUEUED entries that owe an answer end MOVED. -/
def Obligations.TakeReshapeMovesClaim : Prop :=
  ∀ (s : State) (p : Port) (m : ReshapeFields) (rest : List ClaimMessage), MayTake s p (.reshape m) rest → HandleLaw s →
    let x := s.port p
    let base := explicitBase m.any m.base
    let size := m.size.toNat
    let refused (r : Reason) : Prop :=
      exec (.takeReshape p) s = .next (s.setPort p { x with receiveList := rest, owed := x.owed ++ [.refuse m.handle r] })
    (HandleUnused s p m.handle → refused .noHandle) ∧
    ∀ n c, s.claim n = some c → c.carries p m.handle = true →
      (¬ GoodShape c.space base size none → refused .badShape) ∧
      (GoodShape c.space base size none →
        (¬ InPool (s.pool c.space) base size → refused .outOfPool) ∧
        (InPool (s.pool c.space) base size →
          (c.phase.inMotion = true → refused .busy) ∧
          (c.phase.inMotion = false →
            (∀ r, NoRoomFor s c.space base size (some n) r → refused r) ∧
            (∀ b, RoomFor s c.space base size (some n) b → EntriesSound s →
              (c.inFlight = 0 → exec (.takeReshape p) s = .next
                ((s.setClaim n (some { c with base := b, size := size, phase := .live })).portBecomes p
                  (PortRecord.raising
                    { x with receiveList := rest, owed := x.owed ++ [.grant m.handle n c.space b size] } 0x040))) ∧
              (c.inFlight ≠ 0 → exec (.takeReshape p) s = .next
                (((s.setClaim n (some { c with phase := .reshaping b size })).setPort p { x with receiveList := rest }).afterEnd p
                  (queuedOf n) .moved))))))

/-- R10, R28, R29, R33, R159, R160, R84: a RELEASE, and the retirement of a claim with accesses in flight by RELEASE, HOST_RETIRE
or REVOKE: DRAINING under its cause, with the QUEUED entries that owe an answer ended RETIRED. -/
def Obligations.RetirementDrainsClaim : Prop :=
  ∀ (s : State), HandleLaw s → EntriesSound s →
    (∀ p h rest, MayTake s p (.release h) rest →
      let x := s.port p
      let refused (r : Reason) : Prop :=
        exec (.takeRelease p) s = .next (s.setPort p { x with receiveList := rest, owed := x.owed ++ [.refuse h r] })
      (HandleUnused s p h → refused .noHandle) ∧
      ∀ n c, s.claim n = some c → c.carries p h = true →
        (c.phase.inMotion = true → refused .busy) ∧
        (c.phase.inMotion = false → c.inFlight = 0 → exec (.takeRelease p) s = .next
          ((s.setClaim n none).portBecomes p
            (PortRecord.raising
              { x with receiveList := rest, owed := x.owed ++ [.released h], claimCount := x.claimCount - 1 } 0x040))) ∧
        (c.phase.inMotion = false → c.inFlight ≠ 0 → exec (.takeRelease p) s = .next
          (((s.setClaim n (some { c with phase := .draining .release })).setPort p { x with receiveList := rest }).afterEnd p
            (queuedOf n) .retired))) ∧
    (∀ tag w r n c p, IssueReady s tag w r → r.arg0.toNat = n.val → n ≠ 0 → s.claim n = some c → c.inFlight ≠ 0 → c.port = some p →
      let i := s.issued w
      (r.code.toNat = 2 → c.isBoard = false → c.phase = .live → exec (.hostRetire tag w) s = .next
        (((i.setClaim n (some { c with phase := .draining .hostRetire })).afterEnd p (queuedOf n) .retired).answered tag .ok [])) ∧
      (r.code.toNat = 3 → c.isBoard = true → (c.phase = .live ∨ ∃ b z, c.phase = .reshaping b z) → exec (.revoke tag w) s = .next
        (((i.setClaim n (some { c with phase := .draining .revoke })).afterEnd p (queuedOf n) .retired).answered tag .ok [])))

/-- R36, R37: the first owed message is sent in RUN with no handshake of the CD8 outstanding, and NOTICE_ACK clears its mark.
Where a happening cannot be taken, nothing changes: the model's choice, log 2. -/
def Obligations.OwedMessageSentInRun : Prop :=
  ∀ (s : State) (p : Port),
    let x := s.port p
    (∀ m rest, x.state = .run → x.handshake = .none → x.owed = m :: rest →
      exec (.owedMessageSend p) s = .next (s.setPort p (s.sentRecord
        { x with owed := rest, noticeAckOwed := if m = .noticeAck then false else x.noticeAckOwed } (.owed m)))) ∧
    (x.state ≠ .run ∨ x.handshake ≠ .none ∨ x.owed = [] → exec (.owedMessageSend p) s = .next s)

/-! ### Pieces -/

/-- The lowest-numbered free tag below the credit, and that there is none (R71, R72). -/
def LowestFreeTag (x : PortRecord) (t : PieceTag) : Prop :=
  t.val < x.credit ∧ x.tagsInUse[t] = false ∧ ∀ u : PieceTag, u < t → x.tagsInUse[u] = true

def NoFreeTag (x : PortRecord) : Prop :=
  ∀ u : PieceTag, u.val < x.credit → x.tagsInUse[u] = true

/-- R68, R70, R71, R81: the next piece of the entry at the head of the issue list is issued under the lowest free tag; the first piece
starts the completion timer, the last takes the entry out of the list.
Where a happening cannot be taken, nothing changes: the model's choice, log 2. -/
def Obligations.PieceIssueSendsAccess : Prop :=
  ∀ (s : State) (p : Port),
    let x := s.port p
    (∀ k rest e t, x.state = .run → x.handshake = .none → x.issueList = k :: rest → s.entry k = some e → LowestFreeTag x t →
      exec (.pieceIssue p) s = .next
        ((s.setEntry k (some
          { e with
            pieces := e.pieces.set e.issued (.outstanding t)
            issued := e.issued + 1
            timer := if e.issued = 0 then some s.completionTimeout else e.timer })).setPort p
          (s.sentRecord
            { x with
              tagsInUse := x.tagsInUse.set t.val true
              issueList := if e.issued + 1 < e.pieces.length then k :: rest else rest.filter fun j => decide (j ≠ k) }
            (.access t e.kind e.space (e.pieceAddress e.issued) e.pieceWidth (e.pieceData e.issued))))) ∧
    (x.state ≠ .run ∨ x.handshake ≠ .none ∨ x.issueList = [] ∨ NoFreeTag x → exec (.pieceIssue p) s = .next s)

/-- The data count an OK answer to a piece must have, and that the piece ends OK (R75). -/
def dataCount (e : Entry) : Nat :=
  match e.kind with
  | .read => e.pieceWidth
  | .write => 0

abbrev EndsOk (e : Entry) (m : CompleteMsg) : Prop :=
  m.result = 0 ∧ m.data.length = dataCount e

/-- The entry after a COMPLETE has ended its piece `i` (R75, R77, R78). -/
def afterPiece (e : Entry) (i : Nat) (m : CompleteMsg) : Entry :=
  let blames := ¬ EndsOk e m ∧ e.setBy.all (fun j => decide (i < j)) = true
  { e with
    pieces := e.pieces.set i (.ended (if EndsOk e m then .ok else .boardError))
    completed := e.completed + 1
    status := if blames then .boardError else e.status
    setBy := if blames then some i else e.setBy
    buffer :=
      if e.kind = .read ∧ EndsOk e m then
        e.buffer.take (i * e.pieceWidth) ++ m.data ++ e.buffer.drop ((i + 1) * e.pieceWidth)
      else e.buffer }

/-- R74 to R80: a COMPLETE ends the piece under its tag, OK where the result is OK and the data count right, BOARD_ERROR otherwise,
and an entry whose last piece ends finishes; with no piece under its tag it raises STRAY; a bad data count raises PROTOCOL. That a COMPLETE with more
than 8 data bytes has the effect of a bad length (R181), PROTOCOL, is the model's choice (log 17). -/
def Obligations.CompleteEndsPiece : Prop :=
  ∀ (s : State) (p : Port) (seq : Byte) (m : CompleteMsg), Arrives s p seq →
    let a := s.judged p
    let x := a.port p
    (8 < m.data.length → exec (.complete p seq m) s = .next (a.protocolRaised p)) ∧
    (m.data.length ≤ 8 →
      (∀ k e t, s.entry k = some e → e.port = p → t.val = m.tag.toNat → PieceOutcome.outstanding t ∉ e.pieces) →
      exec (.complete p seq m) s = .next (a.portBecomes p (x.raising 0x200))) ∧
    (∀ k e t i, m.data.length ≤ 8 → EntriesSound s → PieceTagLaw s → s.entry k = some e → e.port = p →
      t.val = m.tag.toNat → e.pieces[i]? = some (.outstanding t) →
      let y : PortRecord := { x with tagsInUse := x.tagsInUse.set t.val false }
      let d := afterPiece e i m
      let b := (a.setEntry k (some d)).portBecomes p (if m.result = 0 ∧ ¬ EndsOk e m then y.raising 0x400 else y)
      ((∀ o ∈ d.pieces, o.closed) → exec (.complete p seq m) s = .next (b.afterEnd p (fun j _ => j == k) .ok)) ∧
      (¬ (∀ o ∈ d.pieces, o.closed) → exec (.complete p seq m) s = .next b))

/-! ### Doze, sleep and wake -/

/-- A message with the expected number that the port's state gives no effect but its number and the doze idle timer (R96, R119, R133). -/
abbrev OnlyHeard (s : State) (p : Port) (c : Instr) : Prop :=
  exec c s = .next (s.heard p)

/-- R118 to R122, R133: the doze idle timer's expiry in RUN sends DOZE_REQ for an empty port and restarts for any other; DOZE_ACK enters
DOZE, from which waiting work wakes at once; DOZE_NAK stays in RUN; an answer to no DOZE_REQ is only heard.
Where a happening cannot be taken, nothing changes: the model's choice, log 2. -/
def Obligations.DozeHandshakeEntersDoze : Prop :=
  ∀ (s : State) (p : Port),
    let x := s.port p
    let h := s.heardRecord p
    (x.state = .run → x.dozeIdleTimer ≠ none →
      (PortEmpty s p → x.handshake = .none → exec (.dozeIdleTimerExpiry p) s = .next (s.setPort p
        { s.sentRecord x .dozeReq with handshake := .dozeReq, answerTimer := some 1000, dozeIdleTimer := none })) ∧
      (¬ PortEmpty s p ∨ x.handshake ≠ .none → exec (.dozeIdleTimerExpiry p) s = .next (s.setPort p (s.timed x)))) ∧
    (x.state ≠ .run ∨ x.dozeIdleTimer = none → exec (.dozeIdleTimerExpiry p) s = .next s) ∧
    (x.state = .run → x.handshake = .dozeReq →
      exec (.dozeAck p x.recvSeq) s = .next ((s.setPort p (h.resting .doze)).restsOrWakes p) ∧
      exec (.dozeNak p x.recvSeq) s = .next (s.setPort p (s.timed { h with handshake := .none, answerTimer := none }))) ∧
    (x.state.comparing → (x.state ≠ .run ∨ x.handshake ≠ .dozeReq) →
      OnlyHeard s p (.dozeAck p x.recvSeq) ∧ OnlyHeard s p (.dozeNak p x.recvSeq))

/-- R124 to R126, R133, R164: PORT_SLEEP sends SLEEP_REQ and its answer ends it; a board's SLEEP_REQ by the port's state. -/
def Obligations.SleepHandshakeEntersSleep : Prop :=
  ∀ (s : State) (p : Port),
    let x := s.port p
    let h := s.heardRecord p
    let undozed : PortRecord := if x.handshake = .dozeReq then s.timed { h with handshake := .none, answerTimer := none } else h
    (∀ tag w r, IssueReady s tag w r → r.code.toNat = 10 → r.arg0.toNat = p.val →
      let i := s.issued w
      (x.state ≠ .run → exec (.portSleep tag w) s = .next ((i.concluded 2 15 0 0 0).answered tag .ok [])) ∧
      (x.state = .run → x.handshake ≠ .none ∨ ¬ NoEntryOf s p →
        exec (.portSleep tag w) s = .next ((i.concluded 2 16 0 0 0).answered tag .ok [])) ∧
      (x.state = .run → x.handshake = .none → NoEntryOf s p → exec (.portSleep tag w) s = .next
        ((i.setPort p { s.sentRecord x .sleepReq with handshake := .sleepReq, answerTimer := some 1000, dozeIdleTimer := none }).answered
          tag .ok []))) ∧
    (x.state = .run → x.handshake = .sleepReq →
      exec (.sleepAck p x.recvSeq) s = .next (((s.setPort p (h.resting .sleep)).ends 10 p 1).restsOrWakes p) ∧
      exec (.sleepNak p x.recvSeq) s =
        .next ((s.setPort p (s.timed { h with handshake := .none, answerTimer := none })).ends 10 p 6) ∧
      exec (.sleepReq p x.recvSeq) s = .next (s.setPort p (s.sentRecord h .sleepNak))) ∧
    (x.state.comparing → (x.state ≠ .run ∨ x.handshake ≠ .sleepReq) →
      OnlyHeard s p (.sleepAck p x.recvSeq) ∧ OnlyHeard s p (.sleepNak p x.recvSeq)) ∧
    (x.state = .run → x.handshake ≠ .sleepReq →
      (PortEmpty s p →
        exec (.sleepReq p x.recvSeq) s = .next (s.setPort p ((s.sentRecord undozed .sleepAck).resting .sleep))) ∧
      (¬ PortEmpty s p → exec (.sleepReq p x.recvSeq) s = .next (s.setPort p (s.sentRecord undozed .sleepNak)))) ∧
    (x.state = .doze → exec (.sleepReq p x.recvSeq) s = .next (s.setPort p ((s.sentRecord h .sleepAck).resting .sleep))) ∧
    (x.state = .sleep → exec (.sleepReq p x.recvSeq) s = .next (s.setPort p (s.sentRecord h .sleepAck))) ∧
    (x.state = .waking → exec (.sleepReq p x.recvSeq) s = .next (s.setPort p (s.sentRecord h .sleepNak)))

/-- R128, R129, R131 to R133, R164: PORT_WAKE, and the board's WAKE and WAKE_ACK by the port's state. -/
def Obligations.WakeReturnsPortToRun : Prop :=
  ∀ (s : State) (p : Port),
    let x := s.port p
    let h := s.heardRecord p
    let woken : State := (s.setPort p (s.timed { h with state := .run, wakeExitTimer := none })).ends 11 p 1
    (∀ tag w r, IssueReady s tag w r → r.code.toNat = 11 → r.arg0.toNat = p.val →
      let i := s.issued w
      (x.state = .run → exec (.portWake tag w) s = .next ((i.concluded 1 0 0 0 0).answered tag .ok [])) ∧
      (x.state = .doze ∨ x.state = .sleep →
        exec (.portWake tag w) s = .next ((i.setPort p x.afterWakeCause).answered tag .ok [])) ∧
      (x.state ∈ [.off, .listen, .greet, .realign, .waking, .resetting, .fault] →
        exec (.portWake tag w) s = .next ((i.concluded 2 15 0 0 0).answered tag .ok []))) ∧
    (x.state = .doze ∨ x.state = .sleep →
      exec (.wake p x.recvSeq) s = .next (s.setPort p (s.timed { s.sentRecord h .wakeAck with state := .run }))) ∧
    (x.state = .run → exec (.wake p x.recvSeq) s = .next (s.setPort p (s.sentRecord h .wakeAck))) ∧
    (x.state = .waking → exec (.wake p x.recvSeq) s = .next woken ∧ exec (.wakeAck p x.recvSeq) s = .next woken) ∧
    (x.state = .run ∨ x.state = .doze ∨ x.state = .sleep → OnlyHeard s p (.wakeAck p x.recvSeq))

/-! ### Notices -/

/-- R175, R97: a NOTICE in RUN is stored and raises NOTICE, or is answered NOTICE_NAK while one is stored; elsewhere it raises
PROTOCOL. -/
def Obligations.NoticeStoredOrRefused : Prop :=
  ∀ (s : State) (p : Port) (seq code : Byte), Arrives s p seq →
    let x := s.port p
    let h := s.heardRecord p
    (x.state = .run → x.notice = none →
      exec (.notice p seq code) s = .next (s.portBecomes p (PortRecord.raising { h with notice := some code } 0x800))) ∧
    (x.state = .run → x.notice ≠ none → exec (.notice p seq code) s = .next (s.setPort p (s.sentRecord h .noticeNak))) ∧
    (x.state ≠ .run → exec (.notice p seq code) s = .next ((s.judged p).protocolRaised p))

/-! ### What every step keeps -/

/-- R173: after every step ATTN is driven exactly while a flag whose kind is unmasked is set. -/
def Obligations.StepKeepsAttention : Prop :=
  ∀ s t : State,
    (s.attn = true ↔ (s.globalFlags &&& s.maskGlobal ≠ 0 ∨ ∃ p : Port, (s.port p).flags &&& s.maskPort ≠ 0)) →
    step s = .next t →
    (t.attn = true ↔ (t.globalFlags &&& t.maskGlobal ≠ 0 ∨ ∃ p : Port, (t.port p).flags &&& t.maskPort ≠ 0))

/-- R14, the law of overlap. -/
def Obligations.StepKeepsClaimsDisjoint : Prop :=
  ∀ s t : State, OverlapLaw s → step s = .next t → OverlapLaw t

/-- R3, R4, R19: the laws of handles, of the window and of the quota; R3, R137 to R139: of the states of board claims against those
of their ports and of the one identity of a port's claims. -/
def Obligations.StepKeepsClaimTableLaws : Prop :=
  ∀ s t : State, step s = .next t →
    (WindowLaw s → WindowLaw t) ∧ (HandleLaw s → HandleLaw t) ∧ (QuotaLaw s → QuotaLaw t) ∧
      (BoundLaw s → SessionLaw s → BoardClaimLaw s → BoardClaimLaw t)

/-- R5, R67, R140: every in-flight count is the number of entries bound to the slot. -/
def Obligations.StepKeepsInFlightCounts : Prop :=
  ∀ s t : State, BoundLaw s → step s = .next t → BoundLaw t

/-- R66 and R48: tags are unique, and the completion list has room for every answer owed. -/
def Obligations.StepKeepsAnswersDistinctAndInRoom : Prop :=
  ∀ s t : State, step s = .next t → (TagLaw s → TagLaw t) ∧ (CompletionRoom s → CompletionRoom t)

/-- R67, R68, R70, R72, R77: the shape of every entry and of every issue list, the piece tags, and the law that pieces are OUTSTANDING
only in RUN under tags below the credit; R8, R10, R51, R84: the law that what is QUEUED and owes an answer is bound to a claim at rest. -/
def Obligations.StepKeepsEntryShape : Prop :=
  ∀ s t : State, EntryLaw s → step s = .next t →
    EntryLaw t ∧ (PieceTagLaw s → PieceTagLaw t) ∧ (OutstandingLaw s → OutstandingLaw t) ∧ (PurgedLaw s → PurgedLaw t)

/-- R16, R25, R38, R91, R117, R119, section 8.5: the settings' ranges and the laws of the ports. -/
def Obligations.StepKeepsPortLaws : Prop :=
  ∀ s t : State, step s = .next t →
    (SettingsLaw s → SettingsLaw t) ∧ (SessionLaw s → SessionLaw t) ∧ (HandshakeLaw s → HandshakeLaw t) ∧
      (ClosedListsLaw s → ClosedListsLaw t) ∧ (IdleTimerLaw s → IdleTimerLaw t) ∧ (ReceiveRoom s → ReceiveRoom t)

/-! ### The bytes of the board links -/

/-- Sections 10.2 and 10.3: the frame a board sends for each of its messages, with its check value, is judged as that message. The order
in which the check value's register is read out is PRESUMED (log 14). -/
def Obligations.BoardFramesAreReadBack : Prop :=
  ∀ (c : Instr) (p : Port) (bytes : List Byte), c.wellFormed = true → boardPort c = some p → boardFrame c = some bytes →
    judgeFrame p bytes = c

/-! ### What a board cannot touch -/

/-- The port of a command that a board's link, its timers or its partner raise. COMPLETION_TIMER_EXPIRY names an entry and not a port. -/
def linkOf : Instr → Option Port
  | .presenceAppears p | .presenceLost p | .greetEntry p | .hello p _ _ | .greetTimerExpiry p | .badCheckMessage p
  | .unknownMessage p _ | .alignAck p _ _ | .attemptTimerExpiry p | .resetSignallingTimerExpiry p | .claim p _ _ | .reshape p _ _
  | .release p _ _ | .takeClaim p | .takeReshape p | .takeRelease p | .owedMessageSend p | .pieceIssue p | .complete p _ _
  | .holdTimerExpiry p | .dozeIdleTimerExpiry p | .handshakeAnswerTimerExpiry p | .dozeAck p _ | .dozeNak p _ | .sleepReq p _
  | .sleepAck p _ | .sleepNak p _ | .wake p _ | .wakeAck p _ | .wakeExitTimerExpiry p | .notice p _ _ => some p
  | .powerOnReset _ | .hostLinkUp | .hostLinkReset | .hostRequest _ | .completionSend | .windowWrite _ _ _ | .flagClear _ _ _
  | .maskWrite _ _ | .noticeAcknowledge _ _ | .badCommand _ _ | .hostClaim _ _ | .hostRetire _ _ | .revoke _ _ | .readClaim _ _
  | .find _ _ | .portEnable _ _ | .portDisable _ _ | .portReset _ _ | .portRetrain _ _ | .portSleep _ _ | .portWake _ _
  | .setQuota _ _ | .setHold _ _ | .setPool _ _ | .setTiming _ _ | .completionTimerExpiry _ => none

/-- Nothing that happens on one port touches the record, the claims or the entries of another port, the claims of no port (FENCE, the
window), or any setting. ROUTE claims of the port itself are not spoken of, nor is COMPLETION_TIMER_EXPIRY. -/
def Obligations.PortsAreIsolated : Prop :=
  ∀ (c : Instr) (p : Port) (s t : State), linkOf c = some p → BindingLaw s → EntryLaw s → exec c s = .next t →
    (∀ q : Port, q ≠ p → t.port q = s.port q) ∧
    (∀ n : SlotNo, ∀ d, s.claim n = some d → d.port ≠ some p → t.claim n = some d) ∧
    (∀ k : EntryNo, ∀ e, s.entry k = some e → e.port ≠ p → t.entry k = some e) ∧
    t = { s with
      completions := t.completions, claims := t.claims, entries := t.entries, ports := t.ports, slotState := t.slotState
      result := t.result, globalFlags := t.globalFlags, attn := t.attn }
end

