-- ==== Sys2Proof/Laws/State.lean ====
section
/-! SUPPORT. One lemma for each field under each update of the state: what a read of a part gives after that part or another is
written. Later proofs rewrite with these and unfold no record update. -/

namespace Sys2Proof.Machine

/-! ### The numbered parts under their own update -/

theorem State.port_setPort (s : State) (p q : Port) (x : PortRecord) :
    (s.setPort p x).port q = if p = q then x else s.port q := by
  simp only [State.port, State.setPort, Fin.getElem_fin, Vector.getElem_set, Fin.ext_iff]

@[simp] theorem State.port_setPort_self (s : State) (p : Port) (x : PortRecord) : (s.setPort p x).port p = x := by
  simp [State.port_setPort]

@[simp] theorem State.port_setPort_ne (s : State) {p q : Port} (x : PortRecord) (h : q ≠ p) :
    (s.setPort p x).port q = s.port q := by
  simp [State.port_setPort, Ne.symm h]

@[simp] theorem State.port_modifyPort_self (s : State) (p : Port) (f : PortRecord → PortRecord) :
    (s.modifyPort p f).port p = f (s.port p) := by
  simp [State.modifyPort]

@[simp] theorem State.port_modifyPort_ne (s : State) {p q : Port} (f : PortRecord → PortRecord) (h : q ≠ p) :
    (s.modifyPort p f).port q = s.port q := by
  simp [State.modifyPort, h]

theorem State.claim_setClaim (s : State) (n m : SlotNo) (c : Option Claim) :
    (s.setClaim n c).claim m = if n = m then c else s.claim m := by
  simp only [State.claim, State.setClaim, Fin.getElem_fin, Vector.getElem_set, Fin.ext_iff]

@[simp] theorem State.claim_setClaim_self (s : State) (n : SlotNo) (c : Option Claim) : (s.setClaim n c).claim n = c := by
  simp [State.claim_setClaim]

@[simp] theorem State.claim_setClaim_ne (s : State) {n m : SlotNo} (c : Option Claim) (h : m ≠ n) :
    (s.setClaim n c).claim m = s.claim m := by
  simp [State.claim_setClaim, Ne.symm h]

theorem State.entry_setEntry (s : State) (n m : EntryNo) (e : Option Entry) :
    (s.setEntry n e).entry m = if n = m then e else s.entry m := by
  simp only [State.entry, State.setEntry, Fin.getElem_fin, Vector.getElem_set, Fin.ext_iff]

@[simp] theorem State.entry_setEntry_self (s : State) (n : EntryNo) (e : Option Entry) : (s.setEntry n e).entry n = e := by
  simp [State.entry_setEntry]

@[simp] theorem State.entry_setEntry_ne (s : State) {n m : EntryNo} (e : Option Entry) (h : m ≠ n) :
    (s.setEntry n e).entry m = s.entry m := by
  simp [State.entry_setEntry, Ne.symm h]

/-! ### Updates that meet -/

@[simp] theorem State.setPort_setPort (s : State) (p : Port) (x y : PortRecord) :
    (s.setPort p x).setPort p y = s.setPort p y := by
  simp [State.setPort]

@[simp] theorem State.setPort_port (s : State) (p : Port) : s.setPort p (s.port p) = s := by
  simp [State.setPort, State.port]

theorem State.modifyPort_eq_setPort (s : State) (p : Port) (f : PortRecord → PortRecord) :
    s.modifyPort p f = s.setPort p (f (s.port p)) :=
  rfl

@[simp] theorem State.setClaim_setClaim (s : State) (n : SlotNo) (c d : Option Claim) :
    (s.setClaim n c).setClaim n d = s.setClaim n d := by
  simp [State.setClaim]

@[simp] theorem State.setEntry_setEntry (s : State) (n : EntryNo) (e f : Option Entry) :
    (s.setEntry n e).setEntry n f = s.setEntry n f := by
  simp [State.setEntry]

/-! ### A state is known by its parts -/

/-- Updates of different parts commute: ports inward, then claims. -/
@[simp] theorem State.setClaim_setPort (s : State) (p : Port) (x : PortRecord) (n : SlotNo) (c : Option Claim) :
    (s.setPort p x).setClaim n c = (s.setClaim n c).setPort p x :=
  rfl

@[simp] theorem State.setEntry_setPort (s : State) (p : Port) (x : PortRecord) (k : EntryNo) (e : Option Entry) :
    (s.setPort p x).setEntry k e = (s.setEntry k e).setPort p x :=
  rfl

@[simp] theorem State.setEntry_setClaim (s : State) (n : SlotNo) (c : Option Claim) (k : EntryNo) (e : Option Entry) :
    (s.setClaim n c).setEntry k e = (s.setEntry k e).setClaim n c :=
  rfl

theorem State.ports_ext {s t : State} (h : ∀ p, s.port p = t.port p) : s.ports = t.ports :=
  Vector.ext fun i hi => h ⟨i, hi⟩

theorem State.claims_ext {s t : State} (h : ∀ n, s.claim n = t.claim n) : s.claims = t.claims :=
  Vector.ext fun i hi => h ⟨i, hi⟩

theorem State.entries_ext {s t : State} (h : ∀ n, s.entry n = t.entry n) : s.entries = t.entries :=
  Vector.ext fun i hi => h ⟨i, hi⟩

/-! ### Under `setPort` -/

@[simp] theorem State.winsel_setPort (s : State) (p : Port) (x : PortRecord) : (s.setPort p x).winsel = s.winsel := rfl
@[simp] theorem State.hostLink_setPort (s : State) (p : Port) (x : PortRecord) : (s.setPort p x).hostLink = s.hostLink := rfl
@[simp] theorem State.waiting_setPort (s : State) (p : Port) (x : PortRecord) : (s.setPort p x).waiting = s.waiting := rfl
@[simp] theorem State.completions_setPort (s : State) (p : Port) (x : PortRecord) : (s.setPort p x).completions = s.completions := rfl
@[simp] theorem State.hostSent_setPort (s : State) (p : Port) (x : PortRecord) : (s.setPort p x).hostSent = s.hostSent := rfl
@[simp] theorem State.claims_setPort (s : State) (p : Port) (x : PortRecord) : (s.setPort p x).claims = s.claims := rfl
@[simp] theorem State.memPool_setPort (s : State) (p : Port) (x : PortRecord) : (s.setPort p x).memPool = s.memPool := rfl
@[simp] theorem State.ioPool_setPort (s : State) (p : Port) (x : PortRecord) : (s.setPort p x).ioPool = s.ioPool := rfl
@[simp] theorem State.entries_setPort (s : State) (p : Port) (x : PortRecord) : (s.setPort p x).entries = s.entries := rfl
@[simp] theorem State.command_setPort (s : State) (p : Port) (x : PortRecord) : (s.setPort p x).command = s.command := rfl
@[simp] theorem State.latched_setPort (s : State) (p : Port) (x : PortRecord) : (s.setPort p x).latched = s.latched := rfl
@[simp] theorem State.slotState_setPort (s : State) (p : Port) (x : PortRecord) : (s.setPort p x).slotState = s.slotState := rfl
@[simp] theorem State.result_setPort (s : State) (p : Port) (x : PortRecord) : (s.setPort p x).result = s.result := rfl
@[simp] theorem State.completionTimeout_setPort (s : State) (p : Port) (x : PortRecord) : (s.setPort p x).completionTimeout = s.completionTimeout := rfl
@[simp] theorem State.dozeIdleTime_setPort (s : State) (p : Port) (x : PortRecord) : (s.setPort p x).dozeIdleTime = s.dozeIdleTime := rfl
@[simp] theorem State.realignLimit_setPort (s : State) (p : Port) (x : PortRecord) : (s.setPort p x).realignLimit = s.realignLimit := rfl
@[simp] theorem State.globalFlags_setPort (s : State) (p : Port) (x : PortRecord) : (s.setPort p x).globalFlags = s.globalFlags := rfl
@[simp] theorem State.maskGlobal_setPort (s : State) (p : Port) (x : PortRecord) : (s.setPort p x).maskGlobal = s.maskGlobal := rfl
@[simp] theorem State.maskPort_setPort (s : State) (p : Port) (x : PortRecord) : (s.setPort p x).maskPort = s.maskPort := rfl
@[simp] theorem State.attn_setPort (s : State) (p : Port) (x : PortRecord) : (s.setPort p x).attn = s.attn := rfl
@[simp] theorem State.pending_setPort (s : State) (p : Port) (x : PortRecord) : (s.setPort p x).pending = s.pending := rfl
@[simp] theorem State.claim_setPort (s : State) (p : Port) (x : PortRecord) (m : SlotNo) : (s.setPort p x).claim m = s.claim m := rfl
@[simp] theorem State.entry_setPort (s : State) (p : Port) (x : PortRecord) (k : EntryNo) : (s.setPort p x).entry k = s.entry k := rfl

/-! ### Under `modifyPort` -/

@[simp] theorem State.winsel_modifyPort (s : State) (p : Port) (f : PortRecord → PortRecord) : (s.modifyPort p f).winsel = s.winsel := rfl
@[simp] theorem State.hostLink_modifyPort (s : State) (p : Port) (f : PortRecord → PortRecord) : (s.modifyPort p f).hostLink = s.hostLink := rfl
@[simp] theorem State.waiting_modifyPort (s : State) (p : Port) (f : PortRecord → PortRecord) : (s.modifyPort p f).waiting = s.waiting := rfl
@[simp] theorem State.completions_modifyPort (s : State) (p : Port) (f : PortRecord → PortRecord) : (s.modifyPort p f).completions = s.completions := rfl
@[simp] theorem State.hostSent_modifyPort (s : State) (p : Port) (f : PortRecord → PortRecord) : (s.modifyPort p f).hostSent = s.hostSent := rfl
@[simp] theorem State.claims_modifyPort (s : State) (p : Port) (f : PortRecord → PortRecord) : (s.modifyPort p f).claims = s.claims := rfl
@[simp] theorem State.memPool_modifyPort (s : State) (p : Port) (f : PortRecord → PortRecord) : (s.modifyPort p f).memPool = s.memPool := rfl
@[simp] theorem State.ioPool_modifyPort (s : State) (p : Port) (f : PortRecord → PortRecord) : (s.modifyPort p f).ioPool = s.ioPool := rfl
@[simp] theorem State.entries_modifyPort (s : State) (p : Port) (f : PortRecord → PortRecord) : (s.modifyPort p f).entries = s.entries := rfl
@[simp] theorem State.command_modifyPort (s : State) (p : Port) (f : PortRecord → PortRecord) : (s.modifyPort p f).command = s.command := rfl
@[simp] theorem State.latched_modifyPort (s : State) (p : Port) (f : PortRecord → PortRecord) : (s.modifyPort p f).latched = s.latched := rfl
@[simp] theorem State.slotState_modifyPort (s : State) (p : Port) (f : PortRecord → PortRecord) : (s.modifyPort p f).slotState = s.slotState := rfl
@[simp] theorem State.result_modifyPort (s : State) (p : Port) (f : PortRecord → PortRecord) : (s.modifyPort p f).result = s.result := rfl
@[simp] theorem State.completionTimeout_modifyPort (s : State) (p : Port) (f : PortRecord → PortRecord) : (s.modifyPort p f).completionTimeout = s.completionTimeout := rfl
@[simp] theorem State.dozeIdleTime_modifyPort (s : State) (p : Port) (f : PortRecord → PortRecord) : (s.modifyPort p f).dozeIdleTime = s.dozeIdleTime := rfl
@[simp] theorem State.realignLimit_modifyPort (s : State) (p : Port) (f : PortRecord → PortRecord) : (s.modifyPort p f).realignLimit = s.realignLimit := rfl
@[simp] theorem State.globalFlags_modifyPort (s : State) (p : Port) (f : PortRecord → PortRecord) : (s.modifyPort p f).globalFlags = s.globalFlags := rfl
@[simp] theorem State.maskGlobal_modifyPort (s : State) (p : Port) (f : PortRecord → PortRecord) : (s.modifyPort p f).maskGlobal = s.maskGlobal := rfl
@[simp] theorem State.maskPort_modifyPort (s : State) (p : Port) (f : PortRecord → PortRecord) : (s.modifyPort p f).maskPort = s.maskPort := rfl
@[simp] theorem State.attn_modifyPort (s : State) (p : Port) (f : PortRecord → PortRecord) : (s.modifyPort p f).attn = s.attn := rfl
@[simp] theorem State.pending_modifyPort (s : State) (p : Port) (f : PortRecord → PortRecord) : (s.modifyPort p f).pending = s.pending := rfl
@[simp] theorem State.claim_modifyPort (s : State) (p : Port) (f : PortRecord → PortRecord) (m : SlotNo) : (s.modifyPort p f).claim m = s.claim m := rfl
@[simp] theorem State.entry_modifyPort (s : State) (p : Port) (f : PortRecord → PortRecord) (k : EntryNo) : (s.modifyPort p f).entry k = s.entry k := rfl

/-! ### Under `setClaim` -/

@[simp] theorem State.winsel_setClaim (s : State) (n : SlotNo) (c : Option Claim) : (s.setClaim n c).winsel = s.winsel := rfl
@[simp] theorem State.hostLink_setClaim (s : State) (n : SlotNo) (c : Option Claim) : (s.setClaim n c).hostLink = s.hostLink := rfl
@[simp] theorem State.waiting_setClaim (s : State) (n : SlotNo) (c : Option Claim) : (s.setClaim n c).waiting = s.waiting := rfl
@[simp] theorem State.completions_setClaim (s : State) (n : SlotNo) (c : Option Claim) : (s.setClaim n c).completions = s.completions := rfl
@[simp] theorem State.hostSent_setClaim (s : State) (n : SlotNo) (c : Option Claim) : (s.setClaim n c).hostSent = s.hostSent := rfl
@[simp] theorem State.memPool_setClaim (s : State) (n : SlotNo) (c : Option Claim) : (s.setClaim n c).memPool = s.memPool := rfl
@[simp] theorem State.ioPool_setClaim (s : State) (n : SlotNo) (c : Option Claim) : (s.setClaim n c).ioPool = s.ioPool := rfl
@[simp] theorem State.entries_setClaim (s : State) (n : SlotNo) (c : Option Claim) : (s.setClaim n c).entries = s.entries := rfl
@[simp] theorem State.ports_setClaim (s : State) (n : SlotNo) (c : Option Claim) : (s.setClaim n c).ports = s.ports := rfl
@[simp] theorem State.command_setClaim (s : State) (n : SlotNo) (c : Option Claim) : (s.setClaim n c).command = s.command := rfl
@[simp] theorem State.latched_setClaim (s : State) (n : SlotNo) (c : Option Claim) : (s.setClaim n c).latched = s.latched := rfl
@[simp] theorem State.slotState_setClaim (s : State) (n : SlotNo) (c : Option Claim) : (s.setClaim n c).slotState = s.slotState := rfl
@[simp] theorem State.result_setClaim (s : State) (n : SlotNo) (c : Option Claim) : (s.setClaim n c).result = s.result := rfl
@[simp] theorem State.completionTimeout_setClaim (s : State) (n : SlotNo) (c : Option Claim) : (s.setClaim n c).completionTimeout = s.completionTimeout := rfl
@[simp] theorem State.dozeIdleTime_setClaim (s : State) (n : SlotNo) (c : Option Claim) : (s.setClaim n c).dozeIdleTime = s.dozeIdleTime := rfl
@[simp] theorem State.realignLimit_setClaim (s : State) (n : SlotNo) (c : Option Claim) : (s.setClaim n c).realignLimit = s.realignLimit := rfl
@[simp] theorem State.globalFlags_setClaim (s : State) (n : SlotNo) (c : Option Claim) : (s.setClaim n c).globalFlags = s.globalFlags := rfl
@[simp] theorem State.maskGlobal_setClaim (s : State) (n : SlotNo) (c : Option Claim) : (s.setClaim n c).maskGlobal = s.maskGlobal := rfl
@[simp] theorem State.maskPort_setClaim (s : State) (n : SlotNo) (c : Option Claim) : (s.setClaim n c).maskPort = s.maskPort := rfl
@[simp] theorem State.attn_setClaim (s : State) (n : SlotNo) (c : Option Claim) : (s.setClaim n c).attn = s.attn := rfl
@[simp] theorem State.pending_setClaim (s : State) (n : SlotNo) (c : Option Claim) : (s.setClaim n c).pending = s.pending := rfl
@[simp] theorem State.port_setClaim (s : State) (n : SlotNo) (c : Option Claim) (q : Port) : (s.setClaim n c).port q = s.port q := rfl
@[simp] theorem State.entry_setClaim (s : State) (n : SlotNo) (c : Option Claim) (k : EntryNo) : (s.setClaim n c).entry k = s.entry k := rfl

/-! ### Under `setEntry` -/

@[simp] theorem State.winsel_setEntry (s : State) (n : EntryNo) (e : Option Entry) : (s.setEntry n e).winsel = s.winsel := rfl
@[simp] theorem State.hostLink_setEntry (s : State) (n : EntryNo) (e : Option Entry) : (s.setEntry n e).hostLink = s.hostLink := rfl
@[simp] theorem State.waiting_setEntry (s : State) (n : EntryNo) (e : Option Entry) : (s.setEntry n e).waiting = s.waiting := rfl
@[simp] theorem State.completions_setEntry (s : State) (n : EntryNo) (e : Option Entry) : (s.setEntry n e).completions = s.completions := rfl
@[simp] theorem State.hostSent_setEntry (s : State) (n : EntryNo) (e : Option Entry) : (s.setEntry n e).hostSent = s.hostSent := rfl
@[simp] theorem State.claims_setEntry (s : State) (n : EntryNo) (e : Option Entry) : (s.setEntry n e).claims = s.claims := rfl
@[simp] theorem State.memPool_setEntry (s : State) (n : EntryNo) (e : Option Entry) : (s.setEntry n e).memPool = s.memPool := rfl
@[simp] theorem State.ioPool_setEntry (s : State) (n : EntryNo) (e : Option Entry) : (s.setEntry n e).ioPool = s.ioPool := rfl
@[simp] theorem State.ports_setEntry (s : State) (n : EntryNo) (e : Option Entry) : (s.setEntry n e).ports = s.ports := rfl
@[simp] theorem State.command_setEntry (s : State) (n : EntryNo) (e : Option Entry) : (s.setEntry n e).command = s.command := rfl
@[simp] theorem State.latched_setEntry (s : State) (n : EntryNo) (e : Option Entry) : (s.setEntry n e).latched = s.latched := rfl
@[simp] theorem State.slotState_setEntry (s : State) (n : EntryNo) (e : Option Entry) : (s.setEntry n e).slotState = s.slotState := rfl
@[simp] theorem State.result_setEntry (s : State) (n : EntryNo) (e : Option Entry) : (s.setEntry n e).result = s.result := rfl
@[simp] theorem State.completionTimeout_setEntry (s : State) (n : EntryNo) (e : Option Entry) : (s.setEntry n e).completionTimeout = s.completionTimeout := rfl
@[simp] theorem State.dozeIdleTime_setEntry (s : State) (n : EntryNo) (e : Option Entry) : (s.setEntry n e).dozeIdleTime = s.dozeIdleTime := rfl
@[simp] theorem State.realignLimit_setEntry (s : State) (n : EntryNo) (e : Option Entry) : (s.setEntry n e).realignLimit = s.realignLimit := rfl
@[simp] theorem State.globalFlags_setEntry (s : State) (n : EntryNo) (e : Option Entry) : (s.setEntry n e).globalFlags = s.globalFlags := rfl
@[simp] theorem State.maskGlobal_setEntry (s : State) (n : EntryNo) (e : Option Entry) : (s.setEntry n e).maskGlobal = s.maskGlobal := rfl
@[simp] theorem State.maskPort_setEntry (s : State) (n : EntryNo) (e : Option Entry) : (s.setEntry n e).maskPort = s.maskPort := rfl
@[simp] theorem State.attn_setEntry (s : State) (n : EntryNo) (e : Option Entry) : (s.setEntry n e).attn = s.attn := rfl
@[simp] theorem State.pending_setEntry (s : State) (n : EntryNo) (e : Option Entry) : (s.setEntry n e).pending = s.pending := rfl
@[simp] theorem State.port_setEntry (s : State) (n : EntryNo) (e : Option Entry) (q : Port) : (s.setEntry n e).port q = s.port q := rfl
@[simp] theorem State.claim_setEntry (s : State) (n : EntryNo) (e : Option Entry) (m : SlotNo) : (s.setEntry n e).claim m = s.claim m := rfl

/-! ### Under `driveAttn` -/

@[simp] theorem State.winsel_driveAttn (s : State) : (s.driveAttn).winsel = s.winsel := rfl
@[simp] theorem State.hostLink_driveAttn (s : State) : (s.driveAttn).hostLink = s.hostLink := rfl
@[simp] theorem State.waiting_driveAttn (s : State) : (s.driveAttn).waiting = s.waiting := rfl
@[simp] theorem State.completions_driveAttn (s : State) : (s.driveAttn).completions = s.completions := rfl
@[simp] theorem State.hostSent_driveAttn (s : State) : (s.driveAttn).hostSent = s.hostSent := rfl
@[simp] theorem State.claims_driveAttn (s : State) : (s.driveAttn).claims = s.claims := rfl
@[simp] theorem State.memPool_driveAttn (s : State) : (s.driveAttn).memPool = s.memPool := rfl
@[simp] theorem State.ioPool_driveAttn (s : State) : (s.driveAttn).ioPool = s.ioPool := rfl
@[simp] theorem State.entries_driveAttn (s : State) : (s.driveAttn).entries = s.entries := rfl
@[simp] theorem State.ports_driveAttn (s : State) : (s.driveAttn).ports = s.ports := rfl
@[simp] theorem State.command_driveAttn (s : State) : (s.driveAttn).command = s.command := rfl
@[simp] theorem State.latched_driveAttn (s : State) : (s.driveAttn).latched = s.latched := rfl
@[simp] theorem State.slotState_driveAttn (s : State) : (s.driveAttn).slotState = s.slotState := rfl
@[simp] theorem State.result_driveAttn (s : State) : (s.driveAttn).result = s.result := rfl
@[simp] theorem State.completionTimeout_driveAttn (s : State) : (s.driveAttn).completionTimeout = s.completionTimeout := rfl
@[simp] theorem State.dozeIdleTime_driveAttn (s : State) : (s.driveAttn).dozeIdleTime = s.dozeIdleTime := rfl
@[simp] theorem State.realignLimit_driveAttn (s : State) : (s.driveAttn).realignLimit = s.realignLimit := rfl
@[simp] theorem State.globalFlags_driveAttn (s : State) : (s.driveAttn).globalFlags = s.globalFlags := rfl
@[simp] theorem State.maskGlobal_driveAttn (s : State) : (s.driveAttn).maskGlobal = s.maskGlobal := rfl
@[simp] theorem State.maskPort_driveAttn (s : State) : (s.driveAttn).maskPort = s.maskPort := rfl
@[simp] theorem State.pending_driveAttn (s : State) : (s.driveAttn).pending = s.pending := rfl
@[simp] theorem State.port_driveAttn (s : State) (q : Port) : (s.driveAttn).port q = s.port q := rfl
@[simp] theorem State.claim_driveAttn (s : State) (m : SlotNo) : (s.driveAttn).claim m = s.claim m := rfl
@[simp] theorem State.entry_driveAttn (s : State) (k : EntryNo) : (s.driveAttn).entry k = s.entry k := rfl

/-! ### Under `handOver` -/

@[simp] theorem State.winsel_handOver (s : State) (c : Completion) : (s.handOver c).winsel = s.winsel := rfl
@[simp] theorem State.hostLink_handOver (s : State) (c : Completion) : (s.handOver c).hostLink = s.hostLink := rfl
@[simp] theorem State.waiting_handOver (s : State) (c : Completion) : (s.handOver c).waiting = s.waiting := rfl
@[simp] theorem State.hostSent_handOver (s : State) (c : Completion) : (s.handOver c).hostSent = s.hostSent := rfl
@[simp] theorem State.claims_handOver (s : State) (c : Completion) : (s.handOver c).claims = s.claims := rfl
@[simp] theorem State.memPool_handOver (s : State) (c : Completion) : (s.handOver c).memPool = s.memPool := rfl
@[simp] theorem State.ioPool_handOver (s : State) (c : Completion) : (s.handOver c).ioPool = s.ioPool := rfl
@[simp] theorem State.entries_handOver (s : State) (c : Completion) : (s.handOver c).entries = s.entries := rfl
@[simp] theorem State.ports_handOver (s : State) (c : Completion) : (s.handOver c).ports = s.ports := rfl
@[simp] theorem State.command_handOver (s : State) (c : Completion) : (s.handOver c).command = s.command := rfl
@[simp] theorem State.latched_handOver (s : State) (c : Completion) : (s.handOver c).latched = s.latched := rfl
@[simp] theorem State.slotState_handOver (s : State) (c : Completion) : (s.handOver c).slotState = s.slotState := rfl
@[simp] theorem State.result_handOver (s : State) (c : Completion) : (s.handOver c).result = s.result := rfl
@[simp] theorem State.completionTimeout_handOver (s : State) (c : Completion) : (s.handOver c).completionTimeout = s.completionTimeout := rfl
@[simp] theorem State.dozeIdleTime_handOver (s : State) (c : Completion) : (s.handOver c).dozeIdleTime = s.dozeIdleTime := rfl
@[simp] theorem State.realignLimit_handOver (s : State) (c : Completion) : (s.handOver c).realignLimit = s.realignLimit := rfl
@[simp] theorem State.globalFlags_handOver (s : State) (c : Completion) : (s.handOver c).globalFlags = s.globalFlags := rfl
@[simp] theorem State.maskGlobal_handOver (s : State) (c : Completion) : (s.handOver c).maskGlobal = s.maskGlobal := rfl
@[simp] theorem State.maskPort_handOver (s : State) (c : Completion) : (s.handOver c).maskPort = s.maskPort := rfl
@[simp] theorem State.attn_handOver (s : State) (c : Completion) : (s.handOver c).attn = s.attn := rfl
@[simp] theorem State.pending_handOver (s : State) (c : Completion) : (s.handOver c).pending = s.pending := rfl
@[simp] theorem State.port_handOver (s : State) (c : Completion) (q : Port) : (s.handOver c).port q = s.port q := rfl
@[simp] theorem State.claim_handOver (s : State) (c : Completion) (m : SlotNo) : (s.handOver c).claim m = s.claim m := rfl
@[simp] theorem State.entry_handOver (s : State) (c : Completion) (k : EntryNo) : (s.handOver c).entry k = s.entry k := rfl

@[simp] theorem State.attn_driveAttn (s : State) : s.driveAttn.attn = s.attnCondition := rfl

@[simp] theorem State.completions_handOver (s : State) (c : Completion) : (s.handOver c).completions = s.completions ++ [c] := rfl

/-! ### ATTN's condition reads the flags and the mask alone -/

theorem State.attnCondition_congr {s t : State} (hg : s.globalFlags = t.globalFlags) (hm : s.maskGlobal = t.maskGlobal)
    (hk : s.maskPort = t.maskPort) (hf : ∀ p, (s.port p).flags = (t.port p).flags) : s.attnCondition = t.attnCondition := by
  simp [State.attnCondition, hg, hm, hk, hf]

@[simp] theorem State.attnCondition_driveAttn (s : State) : s.driveAttn.attnCondition = s.attnCondition := rfl

@[simp] theorem State.attnCondition_setClaim (s : State) (n : SlotNo) (c : Option Claim) :
    (s.setClaim n c).attnCondition = s.attnCondition := rfl

@[simp] theorem State.attnCondition_setEntry (s : State) (n : EntryNo) (e : Option Entry) :
    (s.setEntry n e).attnCondition = s.attnCondition := rfl

@[simp] theorem State.attnCondition_handOver (s : State) (c : Completion) : (s.handOver c).attnCondition = s.attnCondition := rfl

theorem State.attnCondition_setPort (s : State) (p : Port) (x : PortRecord) (h : x.flags = (s.port p).flags) :
    (s.setPort p x).attnCondition = s.attnCondition := by
  refine State.attnCondition_congr rfl rfl rfl fun q => ?_
  by_cases hq : p = q
  · subst hq; simp [h]
  · simp [State.port_setPort, hq]

end Sys2Proof.Machine
end

