-- ==== Sys2Proof/Laws/Ops.lean ====
section
/-! SUPPORT. For each shared operation one lemma that says what it does: most are an equation for the whole state, whose right side
is a record update; an operation with cases has one lemma for each. -/

namespace Sys2Proof.Machine

/-! ### Walks over the ports and the slots -/

theorem foldl_modifyPort_port (f : Port → PortRecord → PortRecord) (l : List Port) (hl : l.Nodup) (s : State) (q : Port) :
    (l.foldl (fun s p => s.modifyPort p (f p)) s).port q = if q ∈ l then f q (s.port q) else s.port q := by
  induction l generalizing s with
  | nil => simp
  | cons p l ih =>
    obtain ⟨h1, h2⟩ := List.nodup_cons.mp hl
    rw [List.foldl_cons, ih h2]
    by_cases hq : q = p
    · subst hq; simp [h1]
    · simp [hq]

/-- A walk over the ports writes the port records and nothing else. -/
theorem foldl_modifyPort_frame (f : Port → PortRecord → PortRecord) (l : List Port) (s : State) :
    l.foldl (fun s p => s.modifyPort p (f p)) s =
      { s with ports := (l.foldl (fun s p => s.modifyPort p (f p)) s).ports } := by
  induction l generalizing s with
  | nil => rfl
  | cons p l ih => rw [List.foldl_cons, ih]; rfl

theorem mem_allPorts (p : Port) : p ∈ allPorts := List.mem_finRange p

theorem nodup_allPorts : allPorts.Nodup := List.nodup_finRange 8

/-- The partners stand (log 7), and nothing but `present` is written. -/
theorem State.keepPresence_port (s old : State) (p : Port) :
    (s.keepPresence old).port p = { s.port p with present := (old.port p).present } := by
  rw [State.keepPresence, foldl_modifyPort_port (fun p x => { x with present := (old.port p).present }) _ nodup_allPorts,
    if_pos (mem_allPorts p)]

theorem State.keepPresence_frame (s old : State) : s.keepPresence old = { s with ports := (s.keepPresence old).ports } :=
  foldl_modifyPort_frame (fun p x => { x with present := (old.port p).present }) _ s

/-- Every doze idle timer stops (R118). -/
theorem State.stopIdleTimers_port (s : State) (p : Port) :
    s.stopIdleTimers.port p = { s.port p with dozeIdleTimer := none } := by
  rw [State.stopIdleTimers, foldl_modifyPort_port (fun _ x => { x with dozeIdleTimer := none }) _ nodup_allPorts,
    if_pos (mem_allPorts p)]

theorem State.stopIdleTimers_frame (s : State) : s.stopIdleTimers = { s with ports := s.stopIdleTimers.ports } :=
  foldl_modifyPort_frame (fun _ x => { x with dozeIdleTimer := none }) _ s

theorem foldl_setClaim_claim (g : Claim → Claim) (l : List SlotNo) (hl : l.Nodup) (s : State) (m : SlotNo) :
    (l.foldl (fun s n => match s.claim n with
      | some c => s.setClaim n (some (g c))
      | none => s) s).claim m = if m ∈ l then (s.claim m).map g else s.claim m := by
  induction l generalizing s with
  | nil => simp
  | cons n l ih =>
    obtain ⟨h1, h2⟩ := List.nodup_cons.mp hl
    rw [List.foldl_cons, ih h2]
    by_cases hm : m = n
    · subst hm
      cases hc : s.claim m <;> simp [h1, hc]
    · cases hc : s.claim n <;> simp [hm]

/-- A walk over the slots writes the claims and nothing else. -/
theorem foldl_setClaim_frame (g : Claim → Claim) (l : List SlotNo) (s : State) :
    l.foldl (fun s n => match s.claim n with
      | some c => s.setClaim n (some (g c))
      | none => s) s =
    { s with claims := (l.foldl (fun s n => match s.claim n with
      | some c => s.setClaim n (some (g c))
      | none => s) s).claims } := by
  induction l generalizing s with
  | nil => rfl
  | cons n l ih =>
    rw [List.foldl_cons, ih]
    cases s.claim n <;> rfl

theorem mem_allSlots (n : SlotNo) : n ∈ allSlots := List.mem_finRange n

theorem nodup_allSlots : allSlots.Nodup := List.nodup_finRange 64

/-- Step 4 of link loss on each claim (R137). -/
theorem State.orphanClaims_claim (s : State) (p : Port) (m : SlotNo) :
    (s.orphanClaims p).claim m = (s.claim m).map fun c => c.orphaned p := by
  have h := foldl_setClaim_claim (fun c => c.orphaned p) _ nodup_allSlots s m
  rwa [if_pos (mem_allSlots m)] at h

theorem State.orphanClaims_frame (s : State) (p : Port) : s.orphanClaims p = { s with claims := (s.orphanClaims p).claims } :=
  foldl_setClaim_frame _ _ s

/-- Resumption makes the claims of the slots LIVE (R142). -/
theorem State.resumeClaims_claim (s : State) {slots : List SlotNo} (hl : slots.Nodup) (m : SlotNo) :
    (s.resumeClaims slots).claim m =
      if m ∈ slots then (s.claim m).map fun c => { c with phase := .live } else s.claim m :=
  foldl_setClaim_claim _ _ hl s m

theorem State.resumeClaims_frame (s : State) (slots : List SlotNo) :
    s.resumeClaims slots = { s with claims := (s.resumeClaims slots).claims } :=
  foldl_setClaim_frame _ _ s

/-! ### Flags (R170, R171, R173) -/

theorem State.raisePort_eq (s : State) (p : Port) (f : PortFlag) :
    s.raisePort p f = s.portBecomes p { s.port p with flags := (s.port p).flags ||| f.mark } :=
  rfl

theorem State.raiseGlobal_eq (s : State) (f : GlobalFlag) :
    s.raiseGlobal f = State.driveAttn { s with globalFlags := s.globalFlags ||| f.mark } :=
  rfl

theorem State.clearPort_eq (s : State) (p : Port) (ones : Word) :
    s.clearPort p ones = s.portBecomes p { s.port p with flags := (s.port p).flags &&& ~~~(ones.setWidth 12) } :=
  rfl

@[simp] theorem State.port_portBecomes_self (s : State) (p : Port) (x : PortRecord) : (s.portBecomes p x).port p = x := by
  simp [State.portBecomes]

@[simp] theorem State.port_portBecomes_ne (s : State) {p q : Port} (x : PortRecord) (h : q ≠ p) :
    (s.portBecomes p x).port q = s.port q := by
  simp [State.portBecomes, h]

/-- A record written over one that ATTN already follows. -/
@[simp] theorem State.portBecomes_portBecomes (s : State) (p : Port) (x y : PortRecord) :
    (s.portBecomes p x).portBecomes p y = s.portBecomes p y := by
  simp [State.portBecomes, State.driveAttn, State.setPort, State.attnCondition, State.port]

@[simp] theorem State.portBecomes_setPort (s : State) (p : Port) (x y : PortRecord) :
    (s.setPort p x).portBecomes p y = s.portBecomes p y := by
  simp [State.portBecomes]

/-- A record of the same flags written after ATTN was driven. -/
theorem State.setPort_portBecomes (s : State) (p : Port) (x y : PortRecord) (h : y.flags = x.flags) :
    (s.portBecomes p x).setPort p y = s.portBecomes p y := by
  have hc : (s.setPort p x).attnCondition = (s.setPort p y).attnCondition := by
    have := State.attnCondition_setPort (s.setPort p x) p y (by simp [h])
    rw [State.setPort_setPort] at this
    exact this.symm
  simp only [State.portBecomes, State.driveAttn, hc]
  simp [State.setPort]

theorem State.driveAttn_driveAttn (s : State) : s.driveAttn.driveAttn = s.driveAttn :=
  rfl

/-! ### The doze idle timer and sending (R96, R119) -/

theorem State.idleMayRun_iff (s : State) (p : Port) :
    s.idleMayRun p = true ↔ (s.port p).state = .run ∧ (s.port p).dozeCapable = true ∧ s.dozeIdleTime ≠ 0 ∧
      (s.port p).handshake = .none := by
  simp [State.idleMayRun, and_assoc]

theorem State.restartIdle_eq (s : State) (p : Port) :
    s.restartIdle p = s.setPort p { s.port p with dozeIdleTimer := s.idleOf (s.port p) } := by
  simp only [State.restartIdle, State.modifyPort, State.idleOf, ← State.idleMayRun_iff]

theorem State.transmit_eq (s : State) (p : Port) (m : OutMessage) :
    s.transmit p m = s.setPort p (s.sentRecord (s.port p) m) := by
  simp only [State.transmit, State.restartIdle_eq, State.modifyPort, State.setPort_setPort, State.port_setPort_self]
  rfl

theorem State.transmitAlign_eq (s : State) (p : Port) :
    s.transmitAlign p = s.setPort p { s.port p with sent := (s.port p).sent ++ [⟨0, .align p⟩] } :=
  rfl

/-! ### Waking and owing (R36, R111, R128) -/

theorem State.wakeCause_eq (s : State) (p : Port) : s.wakeCause p = s.setPort p (s.port p).afterWakeCause := by
  rw [State.wakeCause, PortRecord.afterWakeCause]
  cases h : (s.port p).state <;>
    simp [State.startWake, State.transmit_eq, State.modifyPort, State.sentRecord, State.idleOf, dozeExitLimit, sleepExitLimit]

theorem State.owe_linked {s : State} {p : Port} (h : (s.port p).state.linked = true) (m : OwedMessage) :
    s.owe p m = s.setPort p ((s.port p).owing m) := by
  rw [State.owe, if_pos h, State.wakeCause_eq]
  simp [State.modifyPort, PortRecord.owing]

theorem State.owe_unlinked {s : State} {p : Port} (h : (s.port p).state.linked = false) (m : OwedMessage) : s.owe p m = s := by
  simp [State.owe, h]

/-- A message owed in RUN, REALIGN or WAKING only joins the list. -/
theorem PortRecord.owing_awake {x : PortRecord} (h1 : x.state ≠ .doze) (h2 : x.state ≠ .sleep) (m : OwedMessage) :
    x.owing m = { x with owed := x.owed ++ [m] } := by
  simp only [PortRecord.owing, PortRecord.afterWakeCause]
  cases h : x.state <;> simp_all

/-! ### Receiving (R95, R96) -/

theorem State.receive_heard {s : State} {p : Port} (h : (s.port p).state.comparing) {seq : Byte} (hs : seq = (s.port p).recvSeq)
    (act : State → State) : s.receive p seq act = act (s.heard p) := by
  have e : (s.modifyPort p fun x => { x with recvSeq := x.recvSeq + 1 }).restartIdle p = s.heard p := by
    simp [State.restartIdle_eq, State.modifyPort, State.heard, State.heardRecord, State.idleOf]
  rcases h with h | h | h | h <;> simp only [State.receive, h, if_pos hs, e]

theorem State.receive_wrongNumber {s : State} {p : Port} (h : (s.port p).state.comparing) {seq : Byte}
    (hs : seq ≠ (s.port p).recvSeq) (act : State → State) : s.receive p seq act = s.enterRealign p := by
  rcases h with h | h | h | h <;> simp only [State.receive, h, if_neg hs, State.badCheck]

theorem State.receive_uncompared {s : State} {p : Port} (h : (s.port p).state = .greet ∨ (s.port p).state = .realign) (seq : Byte)
    (act : State → State) : s.receive p seq act = act s := by
  rcases h with h | h <;> simp [State.receive, h]

theorem State.receive_closed {s : State} {p : Port} (h : (s.port p).state.receiverOpen = false) (seq : Byte) (act : State → State) :
    s.receive p seq act = s := by
  cases e : (s.port p).state <;> simp [State.receive, e] <;> simp [e, PortState.receiverOpen] at h

/-- A COMPLETE with a tag of the port is late (R89, row 3; log 22). -/
theorem PortRecord.lateComplete_iff (x : PortRecord) (m : CompleteMsg) {t : PieceTag} (ht : t.val = m.tag.toNat) :
    x.lateComplete m = true ↔ x.state.receiverOpen = false ∧ m.data.length ≤ 8 ∧ x.endedTags[t] = true := by
  simp [PortRecord.lateComplete, ← ht, and_assoc]

theorem PortRecord.lateComplete_open {x : PortRecord} (h : x.state.receiverOpen = true) (m : CompleteMsg) :
    x.lateComplete m = false := by
  simp [PortRecord.lateComplete, h]

/-- A COMPLETE whose tag the port does not have is not late. -/
theorem PortRecord.lateComplete_noTag (x : PortRecord) {m : CompleteMsg} (h : 8 ≤ m.tag.toNat) : x.lateComplete m = false := by
  simp [PortRecord.lateComplete, Nat.not_lt.mpr h]

/-- Taking a late COMPLETE clears its mark, raises STRAY, and touches nothing else. -/
theorem State.takeLateComplete_eq (s : State) (p : Port) (m : CompleteMsg) :
    s.takeLateComplete p m = s.portBecomes p
      { s.port p with
        endedTags := (s.port p).endedTags.setIfInBounds m.tag.toNat false, flags := (s.port p).flags ||| PortFlag.stray.mark } := by
  simp [State.takeLateComplete, State.raisePort_eq, State.modifyPort]

theorem execComplete_late {s : State} {p : Port} {m : CompleteMsg} (h : (s.port p).lateComplete m = true) (seq : Byte) :
    execComplete p seq m s = .next (s.takeLateComplete p m) :=
  if_pos h

theorem execComplete_open {s : State} {p : Port} (h : (s.port p).state.receiverOpen = true) (seq : Byte) (m : CompleteMsg) :
    execComplete p seq m s = .next (s.receive p seq fun s => s.takeComplete p m) := by
  simp [execComplete, PortRecord.lateComplete_open h]

theorem execComplete_closed {s : State} {p : Port} (h : (s.port p).state.receiverOpen = false) {m : CompleteMsg}
    (hm : (s.port p).lateComplete m = false) (seq : Byte) : execComplete p seq m s = .next s := by
  simp [execComplete, hm, State.receive_closed h]

@[simp] theorem State.port_heard_self (s : State) (p : Port) : (s.heard p).port p = s.heardRecord p := by
  simp [State.heard]

/-! ### Commands (R155) -/

theorem State.finishCommand_eq (s : State) (r : CommandResult) (w0 w1 w2 w3 : Nat) :
    s.finishCommand r w0 w1 w2 w3 = s.concluded (wordOf r.code) (wordOf w0) (wordOf w1) (wordOf w2) (wordOf w3) :=
  rfl

/-- The end of an operation is reported to the command that runs it. -/
theorem State.reportEnd_running {s : State} {c : HostCommand} {n : Nat} (h : s.running c n = true) (r : CommandResult) (w0 : Nat) :
    s.reportEnd c n r w0 = s.concluded (wordOf r.code) (wordOf w0) 0 0 0 := by
  rw [State.reportEnd, if_pos h]; rfl

theorem State.reportEnd_idle {s : State} {c : HostCommand} {n : Nat} (h : s.running c n = false) (r : CommandResult) (w0 : Nat) :
    s.reportEnd c n r w0 = s := by
  simp [State.reportEnd, h]

end Sys2Proof.Machine
end

