-- ==== Sys2Proof/Laws/Router.lean ====
section
/-! SUPPORT. What the router does with a window write that it takes as soon as it arrives, and with an issue write. -/

namespace Sys2Proof.Machine

theorem List.find?_finRange_zero {n : Nat} (q : Fin (n + 1) → Bool) (h : q 0 = true) :
    (List.finRange (n + 1)).find? q = some 0 := by
  rw [List.finRange_succ, List.find?_cons_of_pos h]

/-- An address of the window is in slot 0, whatever the other slots hold. -/
theorem State.lookup_window {s : State} (h : s.claim 0 = some (windowClaim s.winsel)) {a : Nat}
    (ha : windowBase s.winsel ≤ a) (hb : a < windowBase s.winsel + 0x1000) : s.lookup .mem a = some 0 := by
  refine List.find?_finRange_zero _ ?_
  simp [h, Claim.meets, windowClaim, Claim.extents, extentsMeet]
  omega

theorem windowBase_bound (w : BitVec 4) : windowBase w + 0x1000 ≤ 0xFE010000 := by
  have := w.isLt
  simp [windowBase]; omega

theorem State.tagHeld_eq_false {s : State} {tag : HostTag} :
    s.tagHeld tag = false ↔ ∀ k : EntryNo, ∀ e, s.entry k = some e → e.owes ≠ some tag := by
  simp only [State.tagHeld, allEntries, List.any_eq_false, List.mem_finRange, forall_const]
  refine forall_congr' fun k => ?_
  cases s.entry k <;> simp

/-- A request that nothing holds back is taken as it arrives (R46). -/
theorem State.hostArrival_ready {s : State} (hup : s.hostLink = .up) (hw : s.waiting = []) (hc : s.completions.length < 64)
    (r : HostRequest) : s.hostArrival r = s.takeRequest r := by
  cases s
  simp only at hup hw hc
  subst hup hw
  simp only [State.hostArrival, State.routeNext, routerLimit, List.nil_append, hc, if_true]

/-- A request that must wait joins the requests that wait, and the first of them is taken if it can be (R46). -/
theorem State.issueRow_heldBack {s : State} (h : s.heldBack = true) (c : Option HostCommand) (tag : HostTag) (w : IssueWrite) :
    s.issueRow c tag w = s.hostWindowWrite tag w.offset w.bytes := by
  rw [State.issueRow, if_pos (.inl h)]

/-- With the completion list full nothing is taken, and the request stands at the end of those that wait (R46). -/
theorem State.hostArrival_full {s : State} (hup : s.hostLink = .up) (hc : 64 ≤ s.completions.length) (r : HostRequest) :
    s.hostArrival r = { s with waiting := s.waiting ++ [r] } := by
  cases s
  simp only at hup hc
  subst hup
  simp [State.hostArrival, State.routeNext, routerLimit, Nat.not_lt.mpr hc]

/-- The lengths a window access may have. -/
def windowLength (n : Nat) : Prop := n = 1 ∨ n = 2 ∨ n = 4 ∨ n = 8

/-- A window write of good length and alignment, taken at once (R59, R61). -/
theorem State.hostWindowWrite_ready {s : State} {tag : HostTag} (h : HostReady s tag) {offset : Nat} {data : List Byte}
    (hl : windowLength data.length) (ha : offset % data.length = 0) (ho : offset < 0x1000) :
    s.hostWindowWrite tag offset data = (s.windowStore offset data).answered tag .ok [] := by
  obtain ⟨hup, hw, hc, h0, ht⟩ := h
  have hb := windowBase_bound s.winsel
  have hbase : windowBase s.winsel % 8 = 0 := by simp [windowBase]; omega
  have hbl : 0xFE000000 ≤ windowBase s.winsel := by simp [windowBase]
  have hwin : s.windowStart = windowBase s.winsel := by simp [State.windowStart, h0, windowClaim]
  have hlen : (byteOf data.length).toNat = data.length := by
    simp only [byteOf, BitVec.toNat_ofNat]; rcases hl with e | e | e | e <;> simp [e]
  have haddr : (wordOf (windowBase s.winsel + offset)).toNat = windowBase s.winsel + offset := by
    simp only [wordOf, BitVec.toNat_ofNat]; omega
  have htag : (BitVec.setWidth 8 tag).setWidth 6 = tag := by
    apply BitVec.eq_of_toNat_eq
    simp only [BitVec.toNat_setWidth]
    have := tag.isLt
    omega
  have hdec : (memWrite tag (windowBase s.winsel + offset) data).decode =
      ⟨tag, some .write, some .mem, data.length, windowBase s.winsel + offset, data⟩ := by
    simp [memWrite, HostRequest.decode, htag, hlen, haddr, kindOfCode, spaceOfCode]
  have hmod : (windowBase s.winsel + offset) % data.length = 0 := by
    rcases hl with e | e | e | e <;> simp only [e] at ha ⊢ <;> omega
  have hmal : s.malformed ⟨tag, some .write, some .mem, data.length, windowBase s.winsel + offset, data⟩ = false := by
    have hnot : ¬ 0xFFFFFFFF < windowBase s.winsel + offset := by omega
    simp only [State.malformed, Space.lengths, Space.lastAddress, dataFault, hmod, State.inWindow]
    have h8 : ¬ 8 < data.length := by rcases hl with e | e | e | e <;> omega
    rcases hl with e | e | e | e <;> simp [e, hnot]
  have hlook : s.lookup .mem (windowBase s.winsel + offset) = some 0 := State.lookup_window h0 (by omega) (by omega)
  simp only [State.hostWindowWrite, State.hostArrival_ready hup hw hc, hwin, State.takeRequest, hdec, hmal,
    State.tagHeld_eq_false.mpr ht, State.route, hlook, State.serveWindow]
  simp [State.answered, State.handOver]

/-- The registers an issue write reaches (section 10.6). -/
theorem registerAt_issue : registerAt 0x054 = .issue ∧ registerAt 0x050 = .commandWord 4 := by decide

theorem WordLane.bytes_length (l : WordLane) : windowLength l.bytes.length := by
  cases l <;> simp [WordLane.bytes, windowLength, wordBytes]

theorem WordLane.offset_lt (l : WordLane) : l.offset + l.bytes.length ≤ 4 := by
  cases l <;> (simp [WordLane.bytes, WordLane.offset, wordBytes]; try omega)

theorem WordLane.offset_aligned (l : WordLane) : l.offset % l.bytes.length = 0 := by
  cases l <;> (simp [WordLane.bytes, WordLane.offset, wordBytes]; try omega)

/-- A write of a lane reaches the register of its word, with its bytes in their places (R59, R61). -/
theorem State.windowStore_lane (s : State) (word : Nat) (l : WordLane) (h : word % 4 = 0) :
    s.windowStore (word + l.offset) l.bytes =
      s.writeRegister (registerAt word) (laneMask l.offset l.bytes.length) (laneValue l.offset l.bytes) := by
  have h1 := WordLane.offset_lt l
  have h2 : l.bytes.length ≤ 4 := by omega
  have h3 : 1 ≤ l.bytes.length := by cases l <;> simp [WordLane.bytes, wordBytes]
  have h4 : (word + l.offset) / 4 * 4 = word := by omega
  have h5 : (word + l.offset) % 4 = l.offset := by omega
  have h6 : l.offset % 4 = l.offset := by omega
  simp [State.windowStore, h2, h4, laneMask, laneValue, h5, h6]

theorem wordOfBytes_wordBytes (w : Word) : wordOfBytes (wordBytes w) = w := by
  apply BitVec.eq_of_getLsbD_eq
  intro i hi
  simp only [wordBytes, wordOfBytes, wordByte, BitVec.getLsbD_or, BitVec.getLsbD_setWidth, BitVec.getLsbD_shiftLeft,
    BitVec.getLsbD_ushiftRight]
  rcases (by omega : i < 8 ∨ (8 ≤ i ∧ i < 16) ∨ (16 ≤ i ∧ i < 24) ∨ 24 ≤ i) with h | h | h | h
  · simp [h, hi]
  · simp [hi, show ¬ i < 8 by omega, show i - 8 < 8 by omega, show 8 + (i - 8) = i by omega, show i - 8 < 32 by omega]
  · simp [hi, show ¬ i < 8 by omega, show ¬ i - 8 < 8 by omega, show i - 8 - 8 < 8 by omega,
      show 16 + (i - 8 - 8) = i by omega, show i - 8 < 32 by omega, show i - 8 - 8 < 32 by omega]
  · simp [hi, show ¬ i < 8 by omega, show ¬ i - 8 < 8 by omega, show ¬ i - 8 - 8 < 8 by omega, show i - 8 - 8 - 8 < 8 by omega,
      show 24 + (i - 8 - 8 - 8) = i by omega, show i - 8 < 32 by omega, show i - 8 - 8 < 32 by omega,
      show i - 8 - 8 - 8 < 32 by omega]

theorem mergeBytes_all (old v : Word) : mergeBytes old 0xFFFFFFFF v = v := by
  rw [show (0xFFFFFFFF : Word) = BitVec.allOnes 32 by decide, mergeBytes, BitVec.not_allOnes, BitVec.and_zero,
    BitVec.and_allOnes, BitVec.zero_or]

/-- An issue write taken at once: the issue of the record it finds, answered OK (R61, R153). -/
theorem State.issueRow_ready {s : State} {tag : HostTag} (h : HostReady s tag) (w : IssueWrite) {c : Option HostCommand}
    (hc : s.slotState = .busy ∨ HostCommand.ofCode s.command.code = c) :
    s.issueRow c tag w = (State.issue { s with command := recordFound w s.command }).answered tag .ok [] := by
  rw [State.issueRow, if_pos (.inr hc)]
  cases w with
  | lane l =>
    have h1 := WordLane.offset_lt l
    have ha : (0x054 + l.offset) % l.bytes.length = 0 := by
      cases l <;> (simp [WordLane.bytes, WordLane.offset, wordBytes]; try omega)
    have h2 : 1 ≤ l.bytes.length := by cases l <;> simp [WordLane.bytes, wordBytes]
    simp only [IssueWrite.offset, IssueWrite.bytes]
    rw [State.hostWindowWrite_ready h (WordLane.bytes_length l) ha (by omega), State.windowStore_lane s 0x054 l (by decide),
      registerAt_issue.1]
    rfl
  | withArgument3 a v =>
    simp only [IssueWrite.offset, IssueWrite.bytes]
    rw [State.hostWindowWrite_ready h (Or.inr (Or.inr (Or.inr (by simp [wordBytes])))) (by simp [wordBytes]) (by decide)]
    have e1 : (wordBytes a ++ wordBytes v).take 4 = wordBytes a := by simp [wordBytes]
    have e2 : (wordBytes a ++ wordBytes v).drop 4 = wordBytes v := by simp [wordBytes]
    have e3 : ¬ (wordBytes a ++ wordBytes v).length ≤ 4 := by simp [wordBytes]
    have e4 : registerAt (0x050 + 4) = .issue := by decide
    rw [State.windowStore, if_neg e3, e1, e2, wordOfBytes_wordBytes, e4, registerAt_issue.2]
    simp only [State.writeRegister, mergeBytes_all, CommandRecord.put, recordFound]

/-- An issue write of a command that may start, taken at once (R153, R154). -/
theorem State.issueRow_starts {s : State} {tag : HostTag} {w : IssueWrite} {r : CommandRecord} (h : IssueReady s tag w r)
    {c : Option HostCommand} (hc : HostCommand.ofCode r.code = c) :
    s.issueRow c tag w = (s.issued w).startCommand.answered tag .ok [] := by
  obtain ⟨h1, h2, h3⟩ := h
  have hcode : r.code = s.command.code := by subst h3; cases w <;> rfl
  rw [State.issueRow_ready h1 w (.inr (by rw [← hcode]; exact hc)), State.issue]
  revert h2
  simp only [State.latch, State.issued]
  cases s.slotState <;> simp

end Sys2Proof.Machine
end

