-- ==== Sys2Proof/Tests/Slice0.lean ====
section
/-! SUPPORT. Tests: the checks of WellFormed, one or two small tests for each command with results from the manual (chapter 11 and the
rules named), and for each statement with hypotheses a state and operands that meet them. -/

namespace Sys2Proof.Tests

open Sys2Proof Sys2Proof.Machine

set_option Elab.async false

/-! ### What WellFormed refuses -/

theorem test_wellFormed_refuses_odd_length : (Instr.windowWrite 0 0x040 [1, 2, 3]).wellFormed = false := by decide
theorem test_wellFormed_refuses_misaligned : (Instr.windowWrite 0 0x041 [1, 2]).wellFormed = false := by decide
theorem test_wellFormed_refuses_action_word : (Instr.windowWrite 0 0x100 [1]).wellFormed = false := by decide
theorem test_wellFormed_refuses_action_in_second_word :
    (Instr.windowWrite 0 0x050 [1, 2, 3, 4, 5, 6, 7, 8]).wellFormed = false := by decide
theorem test_wellFormed_refuses_nine_data_bytes :
    (Instr.complete 0 0 ⟨0, 0, List.replicate 9 0⟩).wellFormed = false := by decide
theorem test_wellFormed_takes_record_word : (Instr.windowWrite 0 0x040 [1, 2, 3, 4]).wellFormed = true := by decide

/-! ### The scene: port 2 with its board, as chapter 11 has it -/

/-- The state after a command. -/
def after (c : Instr) (s : State) : State :=
  match exec c s with
  | .next t => t
  | .fault _ => s
  | .refused _ => s

/-- The attributes of the first claim of section 11.6, that claim with a count in flight, and an entry for it. -/
def attributes : Attributes := ⟨4, .nonposted, .wake⟩

def claim0 (inFlight : Nat) : Claim :=
  ⟨.board 2 0 0x51A7 attributes, .mem, 0x80000000, 0x10000, .live, inFlight⟩

/-- The READ of section 11.7 under tag 3. -/
def entry0 : Entry where
  owes := some 3
  posted := false
  kind := .read
  space := .mem
  address := 0x80000040
  length := 16
  data := []
  slot := 1
  port := 2
  width := 4
  pieces := [.notIssued, .notIssued, .notIssued, .notIssued]
  issued := 0
  completed := 0
  status := .ok
  setBy := none
  buffer := List.replicate 16 0xFF
  timer := none

/-- The same entry with its four pieces issued, of which the last waits. -/
def entry1 : Entry :=
  { entry0 with
    pieces := [.ended .ok, .ended .ok, .ended .ok, .outstanding 1], issued := 4, completed := 3, timer := some 2000 }

/-- Port 2 in RUN after the greeting of section 11.6, and in another state of the same session. -/
def inRun : PortRecord :=
  { PortRecord.reset with
    present := true, state := .run, identity := some 0x51A7, credit := 4, dozeCapable := true, sendSeq := 1, recvSeq := 1
    dozeIdleTimer := some 200 }

def inState (st : PortState) : PortRecord :=
  { inRun with state := st, dozeIdleTimer := none }

/-- Slot 1, place 0 and port 2 as given, everything else as after power-on reset with WINSEL 0 and the host link UP. -/
def scene (c : Option Claim) (e : Option Entry) (x : PortRecord) : State :=
  ((({ State.powerOn 0 with hostLink := .up } : State).setClaim 1 c).setEntry 0 e).setPort 2 x

/-- The scene with a command record; an issue write of one byte. -/
def asking (s : State) (code a0 a1 a2 a3 : Word) : State :=
  { s with command := ⟨code, a0, a1, a2, a3⟩ }

def issue : IssueWrite := .lane (.byte 0 1)

def quiet (x : PortRecord) : State := scene (some (claim0 0)) none x

def busyClaim (x : PortRecord) : State := scene (some (claim0 1)) (some entry0) { x with issueList := [0] }

/-- A READ (1) or WRITE (2) in MEM under tag 9. -/
def memRequest (kind : Byte) (length : Byte) (address : Word) (data : List Byte) : HostRequest :=
  ⟨9, kind ||| 4, length, 0, address, data⟩

/-! ### Power, the host link, requests -/

theorem test_power_on_window_base : (after (.powerOnReset 3) (quiet inRun)).claim 0 =
    some ⟨.fixed, .mem, 0xFE003000, 0x1000, .live, 0⟩ := by decide +kernel

theorem test_host_link_up : (after .hostLinkUp State.reset).hostLink = .up := by decide +kernel

/-- R64: a QUEUED entry owing an answer is freed, and the count falls. -/
theorem test_host_link_reset_frees_queued : (after .hostLinkReset (busyClaim inRun)).entry 0 = none := by decide +kernel
theorem test_host_link_reset_lowers_count : (after .hostLinkReset (busyClaim inRun)).claim 1 = some (claim0 0) := by decide +kernel

/-- Section 11.7: a 16-byte read becomes four pieces. -/
theorem test_read_splits : ((after (.hostRequest (memRequest 1 16 0x80000040 [])) (quiet inRun)).entry 0).map (·.pieces.length) =
    some 4 := by decide +kernel

/-- R51: no claim at the address. -/
theorem test_unclaimed_read : (after (.hostRequest (memRequest 1 2 0x80010000 [])) (quiet inRun)).completions =
    [⟨9, .unclaimed, [0xFF, 0xFF]⟩] := by decide +kernel

theorem test_completion_send : (after .completionSend { quiet inRun with completions := [⟨3, .ok, []⟩] }).hostSent =
    [⟨3, .ok, []⟩] := by decide +kernel

/-! ### The window -/

theorem test_window_write_byte : (after (.windowWrite 0 0x041 [0xAB]) (quiet inRun)).command.code = 0xAB00 := by decide +kernel

theorem test_flag_clear_writes_one : ((after (.flagClear 0 (.port 2) (.word 0x801))
    (quiet { inRun with flags := 0x841 })).port 2).flags = 0x040 := by decide +kernel

/-- Section 11.2: the mask 0x000F_FF05. -/
theorem test_mask_write : (after (.maskWrite 0 (.word 0x000FFF05)) (quiet inRun)).maskGlobal = 5 ∧
    (after (.maskWrite 0 (.word 0x000FFF05)) (quiet inRun)).maskPort = 0xFFF := by decide +kernel

theorem test_notice_acknowledge : ((after (.noticeAcknowledge 0 (.byte 0 2)) (quiet { inRun with notice := some 7 })).port 2).owed =
    [.noticeAck] := by decide +kernel

/-! ### Host commands -/

theorem test_bad_command : (after (.badCommand 0 issue) (asking (quiet inRun) 16 0 0 0 0)).result = ⟨3, 0, 0, 0, 0⟩ := by decide +kernel

/-- R46, R153: with 64 completions in the list the write of FIND's code and its issue both wait; taken in their order they run FIND. -/
def fullList : State :=
  { asking (quiet inRun) 0 1 0x8000FFFF 0 0 with completions := List.replicate 64 ⟨3, .ok, []⟩ }

theorem test_issue_waits_behind_its_record : (after (.find 1 issue) (after (.windowWrite 0 0x040 [5]) fullList)).waiting.length = 2 := by
  decide +kernel
theorem test_waiting_issue_runs : (State.routeNext (State.routeNext
    { after (.find 1 issue) (after (.windowWrite 0 0x040 [5]) fullList) with completions := [] })).result = ⟨1, 1, 1, 0, 0⟩ := by
  decide +kernel

/-- Section 11.3: a fence of 1 MiB at 0xA000_0000. -/
theorem test_host_claim_fence : (after (.hostClaim 0 issue) (asking (quiet inRun) 1 0x201 0xA0000000 0x100000 0)).claim 2 =
    some ⟨.fence, .mem, 0xA0000000, 0x100000, .live, 0⟩ := by decide +kernel

theorem test_host_retire_not_host : (after (.hostRetire 0 issue) (asking (quiet inRun) 2 1 0 0 0)).result = ⟨2, 11, 0, 0, 0⟩ := by
  decide +kernel

theorem test_revoke_frees_slot : (after (.revoke 0 issue) (asking (quiet inRun) 3 1 0 0 0)).claim 1 = none := by decide +kernel
theorem test_revoke_owes_revoked : ((after (.revoke 0 issue) (asking (quiet inRun) 3 1 0 0 0)).port 2).owed = [.revoked 0] := by
  decide +kernel

/-- R183: the presence byte of a LIVE board claim is 0x3D. -/
theorem test_read_claim_presence : (after (.readClaim 0 issue) (asking (quiet inRun) 4 1 0 0 0)).result.word0 &&& 0xFF = 0x3D := by
  decide +kernel
theorem test_read_claim_free_slot : (after (.readClaim 0 issue) (asking (quiet inRun) 4 63 0 0 0)).result = ⟨1, 0, 0, 0, 0⟩ := by
  decide +kernel

theorem test_find_last_address : (after (.find 0 issue) (asking (quiet inRun) 5 1 0x8000FFFF 0 0)).result = ⟨1, 1, 1, 0, 0⟩ := by
  decide +kernel
theorem test_find_past_end : (after (.find 0 issue) (asking (quiet inRun) 5 1 0x80010000 0 0)).result.word0 = 0xFFFFFFFF := by
  decide +kernel

theorem test_port_enable_refused_in_run : (after (.portEnable 0 issue) (asking (quiet inRun) 6 2 0 0 0)).result =
    ⟨2, 15, 0, 0, 0⟩ := by decide +kernel
theorem test_port_disable_frees_claims : (after (.portDisable 0 issue) (asking (quiet inRun) 7 2 0 0 0)).claim 1 = none := by
  decide +kernel
theorem test_port_reset_stays_busy : (after (.portReset 0 issue) (asking (quiet inRun) 8 2 0 0 0)).slotState = .busy := by
  decide +kernel
theorem test_port_retrain_realigns : ((after (.portRetrain 0 issue) (asking (quiet inRun) 9 2 0 0 0)).port 2).state = .realign := by
  decide +kernel
theorem test_port_sleep_with_entry_busy : (after (.portSleep 0 issue) (asking (busyClaim inRun) 10 2 0 0 0)).result =
    ⟨2, 16, 0, 0, 0⟩ := by decide +kernel
theorem test_port_wake_from_sleep : ((after (.portWake 0 issue) (asking (quiet (inState .sleep)) 11 2 0 0 0)).port 2).wakeExitTimer =
    some 10000 := by decide +kernel
theorem test_set_quota_below_count : (after (.setQuota 0 issue) (asking (quiet { inRun with claimCount := 1 }) 12 2 0 0 0)).result =
    ⟨2, 17, 0, 0, 0⟩ := by decide +kernel
theorem test_set_hold : ((after (.setHold 0 issue) (asking (quiet inRun) 13 2 60000 0 0)).port 2).holdTime = 60000 := by decide +kernel
theorem test_set_pool : (after (.setPool 0 issue) (asking (quiet inRun) 14 2 0x2000 0x2FFF 0)).ioPool = ⟨0x2000, 0x2FFF⟩ := by
  decide +kernel
theorem test_set_timing_limit_eight : (after (.setTiming 0 issue) (asking (quiet inRun) 15 3 8 0 0)).result.status = 4 := by
  decide +kernel

/-! ### Presence, greeting, realign -/

theorem test_presence_greets : ((after (.presenceAppears 2) (quiet PortRecord.reset)).port 2).state = .greet := by decide +kernel

/-- Section 11.9, step 4: the claims of the lost link become ORPHANED. -/
theorem test_presence_lost_orphans : (after (.presenceLost 2) (quiet inRun)).claim 1 =
    some { claim0 0 with phase := .orphaned } := by decide +kernel
/-- Section 11.9, step 5: an entry finishes LINK_DOWN with 0xFF. -/
theorem test_presence_lost_link_down : (after (.presenceLost 2) (busyClaim inRun)).completions =
    [⟨3, .linkDown, List.replicate 16 0xFF⟩] := by decide +kernel

theorem test_greet_entry : ((after (.greetEntry 2) (quiet { PortRecord.reset with present := true })).port 2).greetTimer =
    some 20000 := by decide +kernel

/-- Section 11.6: the greeting. -/
theorem test_hello_welcome : ((after (.hello 2 0 ⟨0x51A7, 4, true, 1⟩) (scene none none
    { PortRecord.reset with present := true, state := .greet, greetTimer := some 20000 })).port 2) =
    { inRun with flags := 1, sent := [⟨0, .welcome 2 8 0⟩] } := by decide +kernel
/-- Section 11.9: reattachment. -/
theorem test_hello_resumes : (after (.hello 2 0 ⟨0x51A7, 2, true, 1⟩) (scene (some { claim0 0 with phase := .orphaned }) none
    { PortRecord.reset with present := true, state := .greet, holdTimer := some 500 })).claim 1 = some (claim0 0) := by decide +kernel

theorem test_fourth_greet_failure_faults : ((after (.greetTimerExpiry 2) (quiet
    { PortRecord.reset with state := .greet, greetTimer := some 20000, greetFailures := 3 })).port 2).state = .fault := by decide +kernel
theorem test_bad_check_aligns : ((after (.badCheckMessage 2) (quiet inRun)).port 2).sent = [⟨0, .align 2⟩] := by decide +kernel
theorem test_unknown_message_protocol : ((after (.unknownMessage 2 1) (quiet inRun)).port 2).flags = 0x400 := by decide +kernel
theorem test_align_ack_returns : ((after (.alignAck 2 9 0x51A7) (quiet (inState .realign))).port 2).recvSeq = 10 := by decide +kernel
theorem test_third_attempt_loses_link : ((after (.attemptTimerExpiry 2) (quiet
    { inState .realign with attemptTimer := some 2000, realignAttempts := 2 })).port 2).state = .listen := by decide +kernel
theorem test_reset_signalling_ends : ((after (.resetSignallingTimerExpiry 2) (quiet
    { PortRecord.reset with state := .resetting, resetTimer := some 1000 })).port 2).state = .listen := by decide +kernel

/-! ### Claim messages -/

/-- The two claims of section 11.6. -/
def firstClaim : ClaimFields := ⟨0, 1, 4, true, false, false, 0, 0x10000⟩
def secondClaim : ClaimFields := ⟨1, 2, 2, false, false, true, 0x2000, 32⟩

theorem test_claim_joins_list : ((after (.claim 2 1 firstClaim) (quiet inRun)).port 2).receiveList = [.claim firstClaim] := by
  decide +kernel
theorem test_reshape_out_of_run : ((after (.reshape 2 1 ⟨0, true, 0, 0x1000⟩) (quiet (inState .doze))).port 2).flags = 0x400 := by
  decide +kernel
theorem test_release_joins_list : ((after (.release 2 1 0) (quiet inRun)).port 2).receiveList = [.release 0] := by decide +kernel

theorem test_take_first_claim : (after (.takeClaim 2) (scene none none { inRun with receiveList := [.claim firstClaim] })).claim 1 =
    some (claim0 0) := by decide +kernel
theorem test_take_second_claim : ((after (.takeClaim 2) (quiet { inRun with receiveList := [.claim secondClaim] })).port 2).owed =
    [.grant 1 2 .io 0x2000 32] := by decide +kernel
/-- Section 11.9: a reshape over the claim's own extent waits for its entry. -/
theorem test_take_reshape_waits : (after (.takeReshape 2) (scene (some (claim0 1)) (some entry1)
    { inRun with receiveList := [.reshape ⟨0, false, 0x80000000, 0x20000⟩] })).claim 1 =
    some { claim0 1 with phase := .reshaping 0x80000000 0x20000 } := by decide +kernel
theorem test_take_release_frees : (after (.takeRelease 2) (quiet { inRun with receiveList := [.release 0] })).claim 1 = none := by
  decide +kernel
theorem test_owed_message_sent : ((after (.owedMessageSend 2) (quiet { inRun with owed := [.released 0] })).port 2).sent =
    [⟨1, .owed (.released 0)⟩] := by decide +kernel

/-! ### Pieces -/

theorem test_piece_issue_access : ((after (.pieceIssue 2) (busyClaim inRun)).port 2).sent =
    [⟨1, .access 0 .read .mem 0x80000040 4 []⟩] := by decide +kernel
theorem test_piece_issue_timer : ((after (.pieceIssue 2) (busyClaim inRun)).entry 0).map (·.timer) = some (some 2000) := by
  decide +kernel

/-- Section 11.7: the fourth COMPLETE finishes the entry. -/
theorem test_last_complete_answers : (after (.complete 2 1 ⟨1, 0, [1, 2, 3, 4]⟩) (scene (some (claim0 1)) (some entry1) inRun)).completions =
    [⟨3, .ok, List.replicate 12 0xFF ++ [1, 2, 3, 4]⟩] := by decide +kernel
/-- Section 11.7, the variant: a wrong data count ends the piece BOARD_ERROR and raises PROTOCOL. -/
theorem test_wrong_count_protocol : ((after (.complete 2 1 ⟨1, 0, [1, 2]⟩) (scene (some (claim0 1)) (some entry1) inRun)).port 2).flags =
    0x400 := by decide +kernel
theorem test_completion_timer_answers : (after (.completionTimerExpiry 0) (scene (some (claim0 1)) (some entry1) inRun)).completions =
    [⟨3, .timeout, List.replicate 16 0xFF⟩] := by decide +kernel

/-! ### Holding, doze, sleep, wake, notices -/

theorem test_hold_expiry_drops : (after (.holdTimerExpiry 2) (scene (some { claim0 0 with phase := .orphaned }) none
    { PortRecord.reset with holdTimer := some 500 })).claim 1 = none := by decide +kernel
theorem test_doze_idle_sends_request : ((after (.dozeIdleTimerExpiry 2) (quiet inRun)).port 2).handshake = .dozeReq := by decide +kernel
theorem test_answer_timer_realigns : ((after (.handshakeAnswerTimerExpiry 2) (quiet
    { inRun with handshake := .dozeReq, answerTimer := some 1000 })).port 2).state = .realign := by decide +kernel
theorem test_doze_ack_dozes : ((after (.dozeAck 2 1) (quiet { inRun with handshake := .dozeReq })).port 2).state = .doze := by
  decide +kernel
theorem test_doze_nak_runs : ((after (.dozeNak 2 1) (quiet { inRun with handshake := .dozeReq, dozeIdleTimer := none })).port
    2).dozeIdleTimer = some 200 := by decide +kernel
theorem test_sleep_request_in_doze : ((after (.sleepReq 2 1) (quiet (inState .doze))).port 2).state = .sleep := by decide +kernel
/-- Section 11.8: SLEEP_ACK ends PORT_SLEEP. -/
theorem test_sleep_ack_ends_command : (after (.sleepAck 2 1) { quiet { inRun with handshake := .sleepReq } with
    slotState := .busy, latched := ⟨10, 2, 0, 0, 0⟩ }).result = ⟨1, 0, 0, 0, 0⟩ := by decide +kernel
theorem test_sleep_nak_declines : (after (.sleepNak 2 1) { quiet { inRun with handshake := .sleepReq } with
    slotState := .busy, latched := ⟨10, 2, 0, 0, 0⟩ }).result.status = 6 := by decide +kernel
theorem test_wake_in_run_acknowledged : ((after (.wake 2 1) (quiet inRun)).port 2).sent = [⟨1, .wakeAck⟩] := by decide +kernel
theorem test_wake_in_waking_unanswered : ((after (.wake 2 1) (quiet (inState .waking))).port 2).sent = [] := by decide +kernel
theorem test_wake_ack_runs : ((after (.wakeAck 2 1) (quiet (inState .waking))).port 2).state = .run := by decide +kernel
/-- Section 11.8: no answer within the exit limit. -/
theorem test_wake_failure_answers : (after (.wakeExitTimerExpiry 2) (busyClaim
    { inState .waking with wakeExitTimer := some 10000 })).completions = [⟨3, .wakeFail, List.replicate 16 0xFF⟩] := by decide +kernel
theorem test_notice_stored : ((after (.notice 2 1 7) (quiet inRun)).port 2).notice = some 7 := by decide +kernel
theorem test_second_notice_refused : ((after (.notice 2 1 8) (quiet { inRun with notice := some 7 })).port 2).sent =
    [⟨1, .noticeNak⟩] := by decide +kernel

/-! ### Bytes (chapter 10) -/

/-- The check value of a cyclic redundancy code of this generator and order over "123456789" (log 14: its known check value). -/
theorem test_check_value : checkValue [0x31, 0x32, 0x33, 0x34, 0x35, 0x36, 0x37, 0x38, 0x39] = 0x6F91 := by decide +kernel
theorem test_frame_read_back : (boardFrame (.hello 2 0 ⟨0x51A7, 4, true, 1⟩)).map (judgeFrame 2) =
    some (.hello 2 0 ⟨0x51A7, 4, true, 1⟩) := by decide +kernel
theorem test_flipped_bit_is_bad_check : (boardFrame (.wake 2 5)).map (fun b => judgeFrame 2 (b.set 2 4)) = some (.badCheckMessage 2) := by
  decide +kernel


/-! ### Checks a kernel can run, for the laws that quantify over what a slot or a place holds -/

theorem claims_forall (s : State) (q : SlotNo → Claim → Prop) [∀ n c, Decidable (q n c)]
    (h : allSlots.all (fun n => (s.claim n).all fun c => decide (q n c)) = true) : ∀ n c, s.claim n = some c → q n c := by
  intro n c hc
  simpa [hc] using List.all_eq_true.mp h n (List.mem_finRange n)

theorem entries_forall (s : State) (q : EntryNo → Entry → Prop) [∀ k e, Decidable (q k e)]
    (h : allEntries.all (fun k => (s.entry k).all fun e => decide (q k e)) = true) : ∀ k e, s.entry k = some e → q k e := by
  intro k e he
  simpa [he] using List.all_eq_true.mp h k (List.mem_finRange k)

theorem purgedLaw (s : State) (h : allEntries.all (fun k => (s.entry k).all fun e => decide (e.issued = 0 → e.owes ≠ none →
    ((s.claim e.slot).all fun c => c.phase.inMotion == false) = true)) = true) : PurgedLaw s := by
  intro k e he h1 h2 c hc
  have := entries_forall s (fun _ e => e.issued = 0 → e.owes ≠ none →
    ((s.claim e.slot).all fun c => c.phase.inMotion == false) = true) h k e he h1 h2
  simpa [hc] using this

theorem claim_pairs (s : State) (q : SlotNo → Claim → SlotNo → Claim → Prop) [∀ m c n d, Decidable (q m c n d)]
    (h : allSlots.all (fun m => (s.claim m).all fun c => allSlots.all fun n => (s.claim n).all fun d => decide (q m c n d)) = true) :
    ∀ m n c d, s.claim m = some c → s.claim n = some d → q m c n d := by
  intro m n c d hc hd
  have h1 := List.all_eq_true.mp h m (List.mem_finRange m)
  simp only [hc, Option.all_some] at h1
  simpa [hd] using List.all_eq_true.mp h1 n (List.mem_finRange n)

theorem entry_pairs (s : State) (q : EntryNo → Entry → EntryNo → Entry → Prop) [∀ m c n d, Decidable (q m c n d)]
    (h : allEntries.all (fun m => (s.entry m).all fun c => allEntries.all fun n => (s.entry n).all fun d => decide (q m c n d)) = true) :
    ∀ m n c d, s.entry m = some c → s.entry n = some d → q m c n d := by
  intro m n c d hc hd
  have h1 := List.all_eq_true.mp h m (List.mem_finRange m)
  simp only [hc, Option.all_some] at h1
  simpa [hd] using List.all_eq_true.mp h1 n (List.mem_finRange n)

/-- The router is ready for a request under the tag. -/
def hostCheck (s : State) (tag : HostTag) : Bool :=
  decide (s.hostLink = .up ∧ s.waiting = [] ∧ s.completions.length < 64 ∧ s.claim 0 = some (windowClaim s.winsel)) &&
    allEntries.all fun k => (s.entry k).all fun e => decide (e.owes ≠ some tag)

theorem hostReady (s : State) (tag : HostTag) (h : hostCheck s tag = true) : HostReady s tag := by
  simp only [hostCheck, Bool.and_eq_true, decide_eq_true_eq] at h
  exact ⟨h.1.1, h.1.2.1, h.1.2.2.1, h.1.2.2.2, entries_forall s _ h.2⟩

/-- The state's command record is issued by one byte under tag 0. -/
abbrev Issues (s : State) : Prop :=
  IssueReady s 0 issue s.command

theorem issues (s : State) (h : (hostCheck s 0 && decide (s.slotState ≠ .busy)) = true) : Issues s := by
  simp only [Bool.and_eq_true, decide_eq_true_eq] at h
  exact ⟨hostReady s 0 h.1, h.2, rfl⟩

def overlapCheck (s : State) : Bool :=
  allSlots.all fun m => (s.claim m).all fun c => allSlots.all fun n => (s.claim n).all fun d =>
    decide (m ≠ n → c.space = d.space → ∀ x ∈ c.extents, ∀ y ∈ d.extents, extentsMeet x y = false)

theorem overlapLaw (s : State) (h : overlapCheck s = true) : OverlapLaw s :=
  fun m n hmn c d hc hd => claim_pairs s (fun m c n d => m ≠ n → c.space = d.space → ∀ x ∈ c.extents, ∀ y ∈ d.extents,
    extentsMeet x y = false) h m n c d hc hd hmn

theorem handleLaw (s : State)
    (h : allSlots.all (fun m => (s.claim m).all fun c => allSlots.all fun n => (s.claim n).all fun d =>
      decide (m ≠ n → ∀ p h, c.carries p h = true → d.carries p h = false)) = true) : HandleLaw s :=
  fun m n hmn c d hc hd => claim_pairs s (fun m c n d => m ≠ n → ∀ p h, c.carries p h = true → d.carries p h = false)
    h m n c d hc hd hmn

def windowCheck (s : State) : Bool :=
  decide (s.claim 0 = some (windowClaim s.winsel)) &&
    allSlots.all fun n => (s.claim n).all fun c => decide (n ≠ 0 → c.owner ≠ .fixed)

theorem windowLaw (s : State) (h : windowCheck s = true) : WindowLaw s := by
  simp only [windowCheck, Bool.and_eq_true, decide_eq_true_eq] at h
  exact ⟨h.1, fun n hn c hc => claims_forall s (fun n c => n ≠ 0 → c.owner ≠ .fixed) h.2 n c hc hn⟩

/-- R49, decided. -/
@[reducible] def decideIllFormed (s : State) (r : HostRequest) : Decidable (IllFormed s r) := by
  unfold IllFormed; infer_instance

def illFormed (s : State) (r : HostRequest) : Bool :=
  @decide _ (decideIllFormed s r)

theorem is_illFormed (s : State) (r : HostRequest) (h : illFormed s r = true) : IllFormed s r :=
  @of_decide_eq_true _ (decideIllFormed s r) h

theorem not_illFormed (s : State) (r : HostRequest) (h : illFormed s r = false) : ¬ IllFormed s r :=
  @of_decide_eq_false _ (decideIllFormed s r) h

def boundCheck (s : State) : Bool :=
  (allSlots.all fun n =>
      match s.claim n with
      | some c => decide (c.inFlight = s.boundEntries n)
      | none => decide (s.boundEntries n = 0)) &&
    (allEntries.all fun k => (s.entry k).all fun e => decide ((s.claim e.slot).bind Claim.port = some e.port)) &&
    allSlots.all fun n => (s.claim n).all fun c => decide (c.phase = .orphaned → c.inFlight = 0)

theorem boundLaw (s : State) (h : boundCheck s = true) : BoundLaw s := by
  simp only [boundCheck, Bool.and_eq_true] at h
  refine ⟨fun n => ?_, entries_forall s _ h.1.2, claims_forall s _ h.2⟩
  have h1 := List.all_eq_true.mp h.1.1 n (List.mem_finRange n)
  cases hc : s.claim n with
  | none => simp only [hc] at h1; exact of_decide_eq_true h1
  | some c => simp only [hc] at h1; exact of_decide_eq_true h1

def widthCheck (s : State) : Bool :=
  allSlots.all fun n => (s.claim n).all fun c =>
    match c.owner with
    | .board _ _ _ a => decide (a.width ∈ Space.widths c.space)
    | .route _ a => decide (a.width ∈ Space.widths c.space)
    | .fixed | .fence => true

theorem widthLaw (s : State) (h : widthCheck s = true) : WidthLaw s := by
  intro n c hc
  have h1 := List.all_eq_true.mp h n (List.mem_finRange n)
  simp only [hc, Option.all_some] at h1
  split at h1 <;> rename_i ho <;> simp_all

def shapeCheck (e : Entry) : Bool :=
  decide (0 < e.pieces.length ∧ e.issued ≤ e.pieces.length ∧ (∀ o ∈ e.pieces.drop e.issued, o = .notIssued) ∧
    (∀ o ∈ e.pieces.take e.issued, o ≠ .notIssued)) &&
  match e.setBy with
  | none => decide (e.status = .ok ∧ ∀ o ∈ e.pieces, o.closed → o = .ended .ok)
  | some j => decide (e.status ≠ .ok ∧ e.pieces[j]? = some (.ended e.status) ∧ ∀ o ∈ e.pieces.take j, o.closed → o = .ended .ok)

theorem entryShape (e : Entry) (h : shapeCheck e = true) : EntryShape e := by
  simp only [shapeCheck, Bool.and_eq_true, decide_eq_true_eq] at h
  refine ⟨h.1.1, h.1.2.1, h.1.2.2.1, h.1.2.2.2, ?_⟩
  have h2 := h.2
  split at h2 <;> rename_i hs <;> simp only [StatusSoFarLaw, hs] <;> exact of_decide_eq_true h2

def entryCheck (s : State) : Bool :=
  widthCheck s && (allEntries.all fun k => (s.entry k).all shapeCheck) &&
    allPorts.all fun p => (s.port p).issueList.all fun k => (s.entry k).any fun e => decide (e.port = p ∧ e.issued < e.pieces.length)

theorem entryLaw (s : State) (h : entryCheck s = true) : EntryLaw s := by
  simp only [entryCheck, Bool.and_eq_true] at h
  refine ⟨widthLaw s h.1.1, fun k e he => entryShape e ?_, fun p k hk => ?_⟩
  · simpa [he] using List.all_eq_true.mp h.1.2 k (List.mem_finRange k)
  · have h1 := List.all_eq_true.mp (List.all_eq_true.mp h.2 p (List.mem_finRange p)) k hk
    simpa [Option.any_eq_true] using h1

theorem pieceTagLaw (s : State)
    (h : ((allEntries.all fun k => (s.entry k).all fun e => decide (∀ t : PieceTag, .outstanding t ∈ e.pieces →
        (s.port e.port).tagsInUse[t] = true ∧ e.pieces.count (.outstanding t) = 1)) &&
      allEntries.all fun j => (s.entry j).all fun d => allEntries.all fun k => (s.entry k).all fun e =>
        decide (j ≠ k → d.port = e.port → ∀ t : PieceTag, .outstanding t ∈ d.pieces → .outstanding t ∉ e.pieces)) = true) :
    PieceTagLaw s := by
  simp only [Bool.and_eq_true] at h
  exact ⟨entries_forall s _ h.1, fun j k hjk d e hd he => entry_pairs s (fun j d k e => j ≠ k → d.port = e.port →
    ∀ t : PieceTag, .outstanding t ∈ d.pieces → .outstanding t ∉ e.pieces) h.2 j k d e hd he hjk⟩

def soundCheck (s : State) : Bool :=
  decide (s.attn = s.attnCondition) && boundCheck s && entryCheck s

theorem sound (s : State) (h : soundCheck s = true) : EntriesSound s := by
  simp only [soundCheck, Bool.and_eq_true, decide_eq_true_eq] at h
  exact ⟨h.1.1, boundLaw s h.1.2, entryLaw s h.2⟩

theorem outstandingLaw (s : State)
    (h : allEntries.all (fun k => (s.entry k).all fun e => decide (∀ t : PieceTag, .outstanding t ∈ e.pieces →
      (s.port e.port).state = .run ∧ (s.port e.port).handshake = .none ∧ t.val < (s.port e.port).credit)) = true) :
    OutstandingLaw s :=
  entries_forall s _ h

def boardClaimCheck (s : State) : Bool :=
  (allSlots.all fun n => (s.claim n).all fun c => decide (∀ p : Port, c.isBoardOf p = true →
      if c.phase = .orphaned then (s.port p).state.linked = false ∧ (s.port p).holdTimer ≠ none
      else (s.port p).state.linked = true ∧ (s.port p).identity = c.identity)) &&
    (allSlots.all fun m => (s.claim m).all fun c => allSlots.all fun n => (s.claim n).all fun d =>
      decide (∀ p : Port, c.isBoardOf p = true → d.isBoardOf p = true → c.identity = d.identity)) &&
    allSlots.all fun n => (s.claim n).all fun c => decide (c.phase.inMotion = true → 0 < c.inFlight)

theorem boardClaimLaw (s : State) (h : boardClaimCheck s = true) : BoardClaimLaw s := by
  simp only [boardClaimCheck, Bool.and_eq_true] at h
  exact ⟨claims_forall s _ h.1.1, claim_pairs s (fun _ c _ d => ∀ p : Port, c.isBoardOf p = true → d.isBoardOf p = true →
    c.identity = d.identity) h.1.2, claims_forall s _ h.2⟩

theorem vacant (s : State) (sp : Space) (base size : Nat) (l : Option SlotNo)
    (h : allSlots.all (fun n => (s.claim n).all fun c => decide (some n ≠ l → c.space = sp →
      ∀ x ∈ c.extents, base + size ≤ x.1 ∨ x.1 + x.2 ≤ base)) = true) : Vacant s sp base size l :=
  claims_forall s _ h

/-- A claim in the way. -/
theorem not_vacant (s : State) (sp : Space) (base size : Nat) (l : Option SlotNo) (n : SlotNo) (c : Claim) (hc : s.claim n = some c)
    (hl : some n ≠ l) (hsp : c.space = sp) (hx : (c.base, c.size) ∈ c.extents) (h1 : c.base < base + size)
    (h2 : base < c.base + c.size) : ¬ Vacant s sp base size l := by
  intro h
  have := h n c hc hl hsp _ hx
  omega

theorem goodShape (sp : Space) (base : Option Nat) (size : Nat) (width : Option Nat)
    (h : (decide (size ≠ 0 ∧ size % Space.granule sp = 0 ∧ size ≤ Space.maxSize sp) &&
      base.all (fun b => decide (b % Space.granule sp = 0 ∧ b + size - 1 ≤ Space.lastAddress sp)) &&
      width.all fun w => decide (w ∈ Space.widths sp)) = true) : GoodShape sp base size width := by
  simp only [Bool.and_eq_true, decide_eq_true_eq] at h
  refine ⟨h.1.1.1, h.1.1.2.1, h.1.1.2.2, fun b hb => ?_, fun w hw => ?_⟩
  · subst hb; simpa using h.1.2
  · subst hw; simpa using h.2

theorem not_goodShape (sp : Space) (base : Option Nat) (size : Nat) (width : Option Nat)
    (h : ¬ (size ≠ 0 ∧ size % Space.granule sp = 0 ∧ size ≤ Space.maxSize sp) ∨
      (∃ b, base = some b ∧ ¬ (b % Space.granule sp = 0 ∧ b + size - 1 ≤ Space.lastAddress sp)) ∨
      ∃ w, width = some w ∧ w ∉ Space.widths sp) : ¬ GoodShape sp base size width := by
  rintro ⟨h1, h2, h3, h4, h5⟩
  rcases h with h | ⟨b, hb, h⟩ | ⟨w, hw, h⟩
  · exact h ⟨h1, h2, h3⟩
  · exact h (h4 b hb)
  · exact h (h5 w hw)

theorem handleUnused (s : State) (p : Port) (x : Handle)
    (h : allSlots.all (fun n => (s.claim n).all fun c => decide (c.carries p x = false)) = true) : HandleUnused s p x :=
  claims_forall s _ h

theorem noEntryOf (s : State) (p : Port)
    (h : allEntries.all (fun k => (s.entry k).all fun e => decide (e.port ≠ p)) = true) : NoEntryOf s p :=
  entries_forall s _ h

theorem nothingBound (s : State) (n : SlotNo)
    (h : allEntries.all (fun k => (s.entry k).all fun e => decide (e.slot ≠ n)) = true) : NothingBound s n :=
  entries_forall s _ h

/-! ### Witnesses: for each statement with hypotheses, a state and operands that meet them, clause by clause -/

theorem witness_StepRunsFrontCommand : ({ quiet inRun with pending := [.hostLinkUp, .wake 2 1] } : State).pending =
    .hostLinkUp :: [.wake 2 1] := rfl

/-- The last clause at 63 completions, the first one at 64. -/
theorem witness_EmptyQueueServesWaitingRequest :
    let s : State := { quiet inRun with waiting := [memRequest 1 4 0x80000000 []], completions := List.replicate 63 ⟨3, .ok, []⟩ }
    let t : State := { s with completions := List.replicate 64 ⟨3, .ok, []⟩ }
    (s.pending = [] ∧ s.waiting = memRequest 1 4 0x80000000 [] :: [] ∧ s.hostLink = .up ∧ s.completions.length < 64) ∧
    (t.pending = [] ∧ 64 ≤ t.completions.length) := by decide +kernel

theorem witness_PowerOnResetWindowReads : exec (.powerOnReset 15) (quiet inRun) = .next (after (.powerOnReset 15) (quiet inRun)) :=
  rfl

theorem witness_HostLinkTrainsAndSends :
    let s : State := { quiet inRun with completions := [⟨3, .ok, []⟩] }
    (s.hostLink = .up ∧ s.completions = ⟨3, .ok, []⟩ :: []) ∧ (quiet inRun).completions = [] := by decide +kernel

/-- With no claim that settles, and with the last entry of a claim that drains. -/
theorem witness_HostLinkResetReleasesAnswers :
    (State.powerOn 0).hostLink = .reset ∧
    ((busyClaim inRun).hostLink = .up ∧ BoundLaw (busyClaim inRun) ∧ EntryLaw (busyClaim inRun) ∧
      (∀ n : SlotNo, (busyClaim inRun).settling freedAtHostReset n = none)) ∧
    (PurgedLaw (busyClaim inRun) ∧ registerAt 0x200 ≠ registerAt 0x100) ∧
    (let s := scene (some { claim0 1 with phase := .draining .release }) (some entry0) { inRun with issueList := [0] }
     s.hostLink = .up ∧ BoundLaw s ∧ EntryLaw s ∧ (s.settling freedAtHostReset 1).isSome) ∧
    (busyClaim { inRun with flags := 1 }).portFlag 2 .linkUp = true :=
  ⟨by decide +kernel, ⟨by decide +kernel, boundLaw _ (by decide +kernel), entryLaw _ (by decide +kernel), by decide +kernel⟩,
    ⟨purgedLaw _ (by decide +kernel), by decide⟩, ⟨by decide +kernel, boundLaw _ (by decide +kernel), entryLaw _ (by decide +kernel), by decide +kernel⟩, by decide +kernel⟩

/-- A length that is no length, and the last IO address but one under a length of 4. -/
theorem witness_IllFormedRequestAnsweredMalformed :
    let s : State := { quiet inRun with completions := List.replicate 63 ⟨3, .ok, []⟩ }
    (s.hostLink = .up ∧ s.waiting = [] ∧ s.completions.length < 64 ∧ s.claim 0 = some (windowClaim s.winsel)) ∧
      (IllFormed s (memRequest 1 3 0x80000000 []) ∧ requestKind (memRequest 1 3 0x80000000 []) = 1) ∧
      (IllFormed s ⟨9, 10, 4, 0, 0x10000, [1, 2, 3, 4]⟩ ∧ requestKind ⟨9, 10, 4, 0, 0x10000, [1, 2, 3, 4]⟩ = 2) ∧
      IllFormed s (memRequest 1 16 0xFE000FF0 []) :=
  ⟨by decide +kernel, ⟨is_illFormed _ _ (by decide +kernel), by decide +kernel⟩, ⟨is_illFormed _ _ (by decide +kernel),
    by decide +kernel⟩, is_illFormed _ _ (by decide +kernel)⟩

/-- A well-formed MEM request that passes the tag check. -/
theorem routed_mem (s : State) (r : HostRequest) (h1 : windowCheck s = true) (h2 : overlapCheck s = true)
    (h3 : hostCheck s (requestTag r) = true) (h4 : illFormed s r = false) (h5 : requestSpace r = 1) : Routed s r .mem :=
  ⟨windowLaw s h1, overlapLaw s h2, hostReady s _ h3, not_illFormed s r h4, h5⟩

/-- A MEM READ of 64 bytes at the last place of the claim, and one past its end. -/
def lastRead : HostRequest := memRequest 1 64 0x8000FFC0 []
def pastRead : HostRequest := memRequest 1 1 0x80010000 []

theorem covers_last : Covers (claim0 0) .mem lastRead.address.toNat :=
  ⟨rfl, (0x80000000, 0x10000), by decide +kernel, by decide +kernel, by decide +kernel⟩

theorem witness_RouterDecidesByClaimAndPort :
    (Routed (quiet inRun) pastRead .mem ∧ ∀ n c, (quiet inRun).claim n = some c → ¬ Covers c .mem pastRead.address.toNat) ∧
    (Routed (quiet inRun) lastRead .mem ∧ (quiet inRun).claim 1 = some (claim0 0) ∧ Covers (claim0 0) .mem lastRead.address.toNat ∧
      (1 : SlotNo) ≠ 0 ∧ atOnceStatus (quiet inRun) (claim0 0) = none) ∧
    (Routed (quiet PortRecord.reset) lastRead .mem ∧ (quiet PortRecord.reset).claim 1 = some (claim0 0) ∧
      atOnceStatus (quiet PortRecord.reset) (claim0 0) = some .linkDown) ∧
    (Routed (quiet inRun) (memRequest 1 4 0xFE000FFC []) .mem ∧ Covers (windowClaim 0) .mem 0xFE000FFC) := by
  refine ⟨⟨routed_mem _ _ (by decide +kernel) (by decide +kernel) (by decide +kernel)
      (by decide +kernel) (by decide +kernel), ?_⟩,
    ⟨routed_mem _ _ (by decide +kernel) (by decide +kernel) (by decide +kernel) (by decide +kernel) (by decide +kernel),
      by decide +kernel, covers_last, by decide, by decide +kernel⟩,
    ⟨routed_mem _ _ (by decide +kernel) (by decide +kernel) (by decide +kernel) (by decide +kernel) (by decide +kernel),
      by decide +kernel, by decide +kernel⟩,
    ⟨routed_mem _ _ (by decide +kernel) (by decide +kernel) (by decide +kernel)
      (by decide +kernel) (by decide +kernel),
      ⟨rfl, (0xFE000000, 0x1000), by decide +kernel, by decide +kernel, by decide +kernel⟩⟩⟩
  unfold Covers
  exact claims_forall _ _ (by decide +kernel)

/-- Every place holds the READ of section 11.7; its claim counts 32. -/
def fullTable : State := { scene (some (claim0 32)) none inRun with entries := Vector.replicate 32 (some entry0) }

theorem witness_HeldTagAndFullTableAnswerBusy :
    ((busyClaim inRun).hostLink = .up ∧ (busyClaim inRun).waiting = [] ∧ (busyClaim inRun).completions.length < 64 ∧
      (busyClaim inRun).claim 0 = some (windowClaim (busyClaim inRun).winsel) ∧
      ¬ IllFormed (busyClaim inRun) ⟨3, 5, 4, 0, 0x80000000, []⟩ ∧
      (busyClaim inRun).entry 0 = some entry0 ∧ entry0.owes = some (requestTag ⟨3, 5, 4, 0, 0x80000000, []⟩)) ∧
    (Routed fullTable lastRead .mem ∧ (∀ k : EntryNo, fullTable.entry k ≠ none) ∧ (1 : SlotNo) ≠ 0 ∧
      fullTable.claim 1 = some (claim0 32) ∧ Covers (claim0 32) .mem lastRead.address.toNat ∧
      atOnceStatus fullTable (claim0 32) = none) :=
  ⟨⟨by decide +kernel, by decide +kernel, by decide +kernel, by decide +kernel, not_illFormed _ _ (by decide +kernel), by decide +kernel,
      by decide +kernel⟩,
    routed_mem _ _ (by decide +kernel) (by decide +kernel) (by decide +kernel)
      (by decide +kernel) (by decide +kernel), by decide +kernel, by decide,
    by decide +kernel, covers_last, by decide +kernel⟩

/-- Place 31 is the only free one. -/
def lastPlace : State :=
  { scene (some (claim0 31)) none inRun with entries := (Vector.replicate 32 (some entry0)).set 31 none }

theorem witness_QueuedAccessBecomesEntry :
    Routed lastPlace lastRead .mem ∧ (1 : SlotNo) ≠ 0 ∧ lastPlace.claim 1 = some (claim0 31) ∧
      Covers (claim0 31) .mem lastRead.address.toNat ∧ atOnceStatus lastPlace (claim0 31) = none ∧
      (claim0 31).owner = .board 2 0 0x51A7 attributes ∧ LowestFreePlace lastPlace 31 :=
  ⟨routed_mem _ _ (by decide +kernel) (by decide +kernel) (by decide +kernel)
      (by decide +kernel) (by decide +kernel), by decide, by decide +kernel,
    covers_last, by decide +kernel, rfl, by decide +kernel, by decide +kernel⟩

/-- A WRITE of 8 bytes in units of 4, and a READ of 4 in units of 4. -/
theorem witness_PiecesDivideAccess :
    let e : Entry := { entry0 with kind := .write, length := 8, data := [1, 2, 3, 4, 5, 6, 7, 8] }
    let d : Entry := { entry0 with length := 4 }
    (e.length = 2 ^ 3 ∧ e.width = 2 ^ 2 ∧ e.address % e.length = 0 ∧ e.width < e.length ∧ 1 < pieceCount e.length e.width ∧
      e.data.length = e.length) ∧
    (d.length = 2 ^ 2 ∧ d.width = 2 ^ 2 ∧ d.address % d.length = 0 ∧ d.length ≤ d.width) := by decide +kernel

/-- The last word and the last 8 bytes of the window. -/
theorem witness_WindowReadReturnsRegisterBytes :
    (HostReady (quiet inRun) (requestTag (memRequest 1 4 0xFE000FFC [])) ∧ requestKind (memRequest 1 4 0xFE000FFC []) = 1 ∧
      requestSpace (memRequest 1 4 0xFE000FFC []) = 1 ∧ requestLength (memRequest 1 4 0xFE000FFC []) ∈ [1, 2, 4, 8] ∧
      (memRequest 1 4 0xFE000FFC []).address.toNat = windowBase (quiet inRun).winsel + 0xFFC) ∧
    (requestLength (memRequest 1 8 0xFE000FF8 []) ∈ [1, 2, 4, 8] ∧ 0xFF8 < 0x1000 ∧ 0xFF8 % requestLength (memRequest 1 8 0xFE000FF8 []) = 0 ∧
      (memRequest 1 8 0xFE000FF8 []).address.toNat = windowBase (quiet inRun).winsel + 0xFF8) :=
  ⟨⟨hostReady _ _ (by decide +kernel), by decide +kernel, by decide +kernel, by decide +kernel, by decide +kernel⟩, by decide +kernel⟩

/-- Ports 1 and 2 with a notice each: port 1's is shown. -/
theorem witness_WindowMapShowsState :
    let s := (quiet { inRun with notice := some 8 }).setPort 1 { inRun with notice := some 7 }
    (s.port 1).notice = some 7 ∧ (∀ q : Port, q < 1 → (s.port q).notice = none) ∧ (∀ p : Port, ((quiet inRun).port p).notice = none) := by
  decide +kernel

theorem witness_WindowWriteStoresRecordBytes :
    HostReady (quiet inRun) 63 ∧ (0xFF8 : BitVec 12).toNat % 8 = 0 ∧ ([1, 2, 3, 4] : List Byte).length ∈ [1, 2, 4, 8] ∧
      (0xFFC : BitVec 12).toNat % ([1, 2, 3, 4] : List Byte).length = 0 ∧ ignoresWrites 0xFFC ∧ ignoresWrites 0xFFF ∧
      ignoresWrites 0x03F ∧ ignoresWrites 0x058 ∧ ¬ ignoresWrites 0x040 ∧ ¬ ignoresWrites 0x057 := by
  refine ⟨hostReady _ _ (by decide +kernel), ?_⟩
  unfold ignoresWrites
  decide +kernel

theorem witness_FlagClearClearsFlagsWrittenOne : HostReady (quiet { inRun with flags := 0xFFF }) 0 := hostReady _ _ (by decide +kernel)

theorem witness_MaskWriteReplacesMarks : HostReady (quiet inRun) 63 := hostReady _ _ (by decide +kernel)

/-- Port numbers 7 and 8, and a byte that is not byte 0. -/
theorem witness_NoticeAcknowledgeOwesOneAck :
    HostReady ((quiet inRun).setPort 7 { inRun with notice := some 0 }) 0 ∧
    (∀ p : Port, acknowledgedPort (.byte 0 8) ≠ some p.val) ∧ (∀ p : Port, acknowledgedPort (.byte 1 2) ≠ some p.val) ∧
    acknowledgedPort (.word 0xFFFFFF07) = some (7 : Port).val ∧
    (((quiet inRun).setPort 7 { inRun with notice := some 0 }).port 7).notice ≠ none ∧
    (((quiet inRun).setPort 7 { inRun with notice := some 0 }).port 7).noticeAckOwed = false ∧
    (((quiet inRun).setPort 7 { inRun with notice := some 0 }).port 7).state.linked = true ∧
    ({ inRun with notice := some 0, noticeAckOwed := true } : PortRecord).noticeAckOwed = true ∧ inRun.notice = none :=
  ⟨hostReady _ _ (by decide +kernel), by decide +kernel⟩

theorem witness_IssueWhileBusyRaisesOverrun :
    HostReady { quiet inRun with slotState := .busy } 0 ∧ ({ quiet inRun with slotState := .busy } : State).slotState = .busy :=
  ⟨hostReady _ _ (by decide +kernel), rfl⟩

/-- Codes 0, 15 and 16, and an argument on either side of the end of each range. -/
theorem witness_CodeAndArgumentsJudgedFirst :
    (Issues (asking (quiet inRun) 16 0 0 0 0) ∧ Issues (asking (quiet inRun) 0 0 0 0 0) ∧
      Issues (asking (quiet inRun) 15 3 7 0 0) ∧ (15 : Word).toNat = HostCommand.setTiming.code) ∧
    (¬ ArgumentOutOfRange .setTiming ⟨15, 3, 7, 0, 0⟩ ∧ ArgumentOutOfRange .setTiming ⟨15, 3, 8, 0, 0⟩ ∧
      ¬ ArgumentOutOfRange .setTiming ⟨15, 1, 100, 0, 0⟩ ∧ ArgumentOutOfRange .setTiming ⟨15, 1, 99, 0, 0⟩ ∧
      ¬ ArgumentOutOfRange .setTiming ⟨15, 2, 65000, 0, 0⟩ ∧ ArgumentOutOfRange .setTiming ⟨15, 2, 65001, 0, 0⟩) ∧
    (¬ ArgumentOutOfRange .setHold ⟨13, 7, 60000, 0, 0⟩ ∧ ArgumentOutOfRange .setHold ⟨13, 7, 60001, 0, 0⟩ ∧
      ¬ ArgumentOutOfRange .setQuota ⟨12, 7, 16, 0, 0⟩ ∧ ArgumentOutOfRange .setQuota ⟨12, 8, 16, 0, 0⟩ ∧
      ¬ ArgumentOutOfRange .find ⟨5, 2, 0xFFFF, 0, 0⟩ ∧ ArgumentOutOfRange .find ⟨5, 2, 0x10000, 0, 0⟩ ∧
      ¬ ArgumentOutOfRange .revoke ⟨3, 63, 0, 0, 0⟩ ∧ ArgumentOutOfRange .revoke ⟨3, 64, 0, 0, 0⟩ ∧
      ¬ ArgumentOutOfRange .setPool ⟨14, 2, 0, 0xFFFF, 0⟩ ∧ ArgumentOutOfRange .setPool ⟨14, 1, 0x1000, 0xFFF, 0⟩) := by
  refine ⟨⟨issues _ (by decide +kernel), issues _ (by decide +kernel), issues _ (by decide +kernel), rfl⟩, ?_, ?_⟩ <;> and_intros <;>
    simp only [ArgumentOutOfRange] <;> decide +kernel

/-- The route of a 4 KiB claim with base ANY on port 7, behind the board's 64 KiB: the seventeenth candidate. -/
def claimAsked : State := asking (quiet inRun) 1 0x04070101 0 0x1000 0x00010101

theorem witness_HostClaimAdmitsHostOwner :
    Issues claimAsked ∧ claimAsked.command.code.toNat = 1 ∧
      HostClaimAsks claimAsked.command .mem (.route 7 ⟨4, .nonposted, .wake⟩) none 0x1000 (some 4) ∧
      GoodShape .mem none 0x1000 (some 4) ∧ LowestFreeSlot claimAsked 2 ∧ RoomFor claimAsked .mem none 0x1000 none 0x80010000 := by
  refine ⟨issues _ (by decide +kernel), by decide +kernel, ⟨by decide +kernel, by decide +kernel, by decide +kernel,
    Or.inr ⟨by decide +kernel, by decide +kernel, 7, .nonposted, .wake, by decide +kernel, by decide +kernel, by decide +kernel,
      by decide +kernel⟩⟩, goodShape _ _ _ _ (by decide +kernel), ⟨by decide, by decide +kernel, by decide +kernel⟩,
    ⟨16, by decide +kernel, by decide +kernel, vacant _ _ _ _ _ (by decide +kernel), ?_⟩⟩
  intro j hj
  have hp : claimAsked.pool .mem = ⟨0x80000000, 0xBFFFFFFF⟩ := by decide +kernel
  refine not_vacant _ _ _ _ _ 1 (claim0 0) (by decide +kernel) (by decide) rfl (by decide +kernel) ?_ ?_ <;>
    simp only [candidateAt, hp, claim0, Space.granule] <;> omega

/-- A table with no FREE slot. -/
def noSlot (s : State) : State :=
  { s with claims := (Vector.replicate 64 (some (claim0 0))).set 0 (some (windowClaim 0)) }

theorem noFreeSlot (s : State) : NoFreeSlot (noSlot s) := by
  intro m hm
  have : (noSlot s).claims[m.val] = some (claim0 0) := by
    have : 0 ≠ m.val := fun h => hm (Fin.ext h.symm)
    simp [noSlot, this]
  simp [State.claim, this]

theorem shape_page (w : Option Nat) (h : w = none ∨ w = some 4) : GoodShape .mem (some 0x80000000) 0x1000 w := by
  rcases h with rfl | rfl <;> exact goodShape _ _ _ _ (by decide +kernel)

/-- A fence over the board's claim, a size off the granule, port 8, and pools with no room. -/
theorem witness_HostClaimRefusedInOrder :
    let fence := asking (quiet inRun) 1 0x201 0x80000000 0x1000 0
    let odd := asking (quiet inRun) 1 0x201 0x80000000 0x1001 0
    let route := asking (quiet inRun) 1 0x04080101 0x80000000 0x1000 0x00010100
    let any := { asking (quiet inRun) 1 0x201 0 0x1000 1 with memPool := ⟨0x80000000, 0x80000FFF⟩ }
    (Issues odd ∧ ¬ ArgumentOutOfRange .hostClaim odd.command ∧ ∀ sp, 1 = Space.code sp → ¬ GoodShape sp (some 0x80000000) 0x1001 none) ∧
    (Issues route ∧ ¬ ArgumentOutOfRange .hostClaim route.command ∧ GoodShape .mem (some 0x80000000) 0x1000 (some 4) ∧
      7 < route.command.arg0.toNat / 0x10000 % 0x100) ∧
    (Issues (noSlot fence) ∧ NoFreeSlot (noSlot fence)) ∧
    (Issues fence ∧ ¬ ArgumentOutOfRange .hostClaim fence.command ∧ fence.command.code.toNat = 1 ∧
      GoodShape .mem (some 0x80000000) 0x1000 none ∧ ¬ NoFreeSlot fence ∧
      NoRoomFor fence .mem (some 0x80000000) 0x1000 none .overlap) ∧
    (Issues any ∧ GoodShape .mem none 0x1000 none ∧ ¬ NoFreeSlot any ∧ NoRoomFor any .mem none 0x1000 none .noRoom) := by
  refine ⟨⟨issues _ (by decide +kernel), ?_, ?_⟩, ⟨issues _ (by decide +kernel), ?_, shape_page _ (.inr rfl), by decide +kernel⟩,
    ⟨issues _ (by decide +kernel), noFreeSlot _⟩,
    ⟨issues _ (by decide +kernel), ?_, by decide +kernel, shape_page _ (.inl rfl), ?_, rfl, ?_⟩,
    ⟨issues _ (by decide +kernel), goodShape _ _ _ _ (by decide +kernel), ?_, rfl, ?_⟩⟩
  · simp only [ArgumentOutOfRange]; decide +kernel
  · intro sp h
    refine not_goodShape _ _ _ _ (.inl ?_)
    cases sp <;> decide +kernel
  · simp only [ArgumentOutOfRange]; decide +kernel
  · simp only [ArgumentOutOfRange]; decide +kernel
  · exact fun h => h 2 (by decide) (by decide +kernel)
  · exact not_vacant _ _ _ _ _ 1 (claim0 0) (by decide +kernel) (by decide) rfl (by decide +kernel) (by decide +kernel) (by decide +kernel)
  · exact fun h => h 2 (by decide) (by decide +kernel)
  · intro k hk
    refine not_vacant _ _ _ _ _ 1 (claim0 0) (by decide +kernel) (by decide) rfl (by decide +kernel) ?_ ?_ <;>
      simp only [candidateAt, State.pool, claim0, Space.granule] at hk ⊢ <;> omega

/-- The host's fence in slot 63, and a route that drains. -/
def fenceAt63 (s : State) : State :=
  s.setClaim 63 (some ⟨.fence, .mem, 0xA0000000, 0x100000, .live, 0⟩)

theorem witness_HostRetireJudgesSlot :
    (Issues (asking (quiet inRun) 2 0 0 0 0) ∧ (asking (quiet inRun) 2 0 0 0 0).command.arg0.toNat = (0 : SlotNo).val) ∧
    (Issues (asking (quiet inRun) 2 63 0 0 0) ∧ (asking (quiet inRun) 2 63 0 0 0).claim 63 = none) ∧
    (Issues (asking (quiet inRun) 2 1 0 0 0) ∧ (asking (quiet inRun) 2 1 0 0 0).claim 1 = some (claim0 0) ∧
      (claim0 0).isBoard = true) ∧
    (Issues (fenceAt63 (asking (quiet inRun) 2 63 0 0 0)) ∧
      (fenceAt63 (asking (quiet inRun) 2 63 0 0 0)).claim 63 = some ⟨.fence, .mem, 0xA0000000, 0x100000, .live, 0⟩ ∧
      NothingBound (fenceAt63 (asking (quiet inRun) 2 63 0 0 0)) 63) :=
  ⟨⟨issues _ (by decide +kernel), by decide +kernel⟩, ⟨issues _ (by decide +kernel), by decide +kernel⟩,
    ⟨issues _ (by decide +kernel), by decide +kernel, by decide +kernel⟩,
    ⟨issues _ (by decide +kernel), by decide +kernel, nothingBound _ _ (by decide +kernel)⟩⟩

/-- Slot 1's claim as given, with a second orphan of the port in slot 2 on demand; the record of REVOKE of slot 1. -/
def revoking (c : Claim) (second : Option Claim) : State :=
  asking ((scene (some c) none inRun).setClaim 2 second) 3 1 0 0 0

def orphan (h : Handle) (base : Nat) : Claim :=
  { claim0 0 with owner := .board 2 h 0x51A7 attributes, base := base, phase := .orphaned }

theorem witness_RevokeJudgesSlot :
    (Issues (revoking (claim0 0) none) ∧ (revoking (claim0 0) none).command.code.toNat = 3 ∧
      (revoking (claim0 0) none).command.arg0.toNat = (1 : SlotNo).val ∧ (revoking (claim0 0) none).claim 1 = some (claim0 0) ∧
      NothingBound (revoking (claim0 0) none) 1 ∧ ((revoking (claim0 0) none).port 2).state.linked = true) ∧
    (Issues (revoking (orphan 0 0x80000000) none) ∧
      ∀ m d, m ≠ 1 → (revoking (orphan 0 0x80000000) none).claim m = some d → d.isOrphanOf 2 = false) ∧
    (Issues (revoking (orphan 0 0x80000000) (some (orphan 15 0x80010000))) ∧
      (revoking (orphan 0 0x80000000) (some (orphan 15 0x80010000))).claim 2 = some (orphan 15 0x80010000) ∧
      (orphan 15 0x80010000).isOrphanOf 2 = true) ∧
    Issues (revoking { claim0 1 with phase := .draining .release } none) ∧ Issues (fenceAt63 (asking (quiet inRun) 3 63 0 0 0)) := by
  refine ⟨⟨issues _ (by decide +kernel), by decide +kernel, by decide +kernel, by decide +kernel, nothingBound _ _ (by decide +kernel),
    by decide +kernel⟩, ⟨issues _ (by decide +kernel), fun m d h1 h2 => ?_⟩, ⟨issues _ (by decide +kernel), by decide +kernel⟩,
    issues _ (by decide +kernel), issues _ (by decide +kernel)⟩
  exact claims_forall (revoking (orphan 0 0x80000000) none) (fun m d => m ≠ 1 → d.isOrphanOf 2 = false) (by decide +kernel) m d h2 h1

theorem witness_ReadClaimReturnsImage :
    (Issues (asking (quiet inRun) 4 1 1 0 0) ∧ (asking (quiet inRun) 4 1 1 0 0).command.arg0.toNat = (1 : SlotNo).val ∧
      WidthLaw (asking (quiet inRun) 4 1 1 0 0) ∧ (asking (quiet inRun) 4 1 1 0 0).claim 1 = some (claim0 0)) ∧
    (Issues (asking (quiet inRun) 4 63 0 0 0) ∧ (asking (quiet inRun) 4 63 0 0 0).claim 63 = none) :=
  ⟨⟨issues _ (by decide +kernel), by decide +kernel, widthLaw _ (by decide +kernel), by decide +kernel⟩,
    ⟨issues _ (by decide +kernel), by decide +kernel⟩⟩

/-- The last address of the claim, and the last of IO. -/
theorem witness_FindReturnsCoveringSlot :
    (Issues (asking (quiet inRun) 5 1 0x8000FFFF 0 0) ∧ OverlapLaw (asking (quiet inRun) 5 1 0x8000FFFF 0 0) ∧
      (asking (quiet inRun) 5 1 0x8000FFFF 0 0).command.arg0.toNat = Space.code .mem ∧
      (asking (quiet inRun) 5 1 0x8000FFFF 0 0).claim 1 = some (claim0 0) ∧ Covers (claim0 0) .mem (0x8000FFFF : Word).toNat) ∧
    (Issues (asking (quiet inRun) 5 2 0xFFFF 0 0) ∧ (0xFFFF : Word).toNat ≤ Space.lastAddress .io ∧
      ∀ n c, (asking (quiet inRun) 5 2 0xFFFF 0 0).claim n = some c → ¬ Covers c .io (0xFFFF : Word).toNat) := by
  refine ⟨⟨issues _ (by decide +kernel), overlapLaw _ (by decide +kernel), by decide +kernel, by decide +kernel,
    ⟨rfl, (0x80000000, 0x10000), by decide +kernel, by decide +kernel, by decide +kernel⟩⟩,
    ⟨issues _ (by decide +kernel), by decide +kernel, ?_⟩⟩
  unfold Covers
  exact claims_forall _ _ (by decide +kernel)

theorem witness_SettingsCommandsStore :
    (Issues (asking (quiet inRun) 12 7 16 0 0) ∧ ((asking (quiet inRun) 12 7 16 0 0).port 7).claimCount ≤ 16) ∧
    (Issues (asking (quiet { inRun with claimCount := 1 }) 12 2 0 0 0) ∧
      0 < ((asking (quiet { inRun with claimCount := 1 }) 12 2 0 0 0).port 2).claimCount) ∧
    Issues (asking (quiet inRun) 13 7 60000 0 0) ∧
    (Issues (asking (quiet inRun) 14 2 0 0xFFFF 0) ∧ ¬ ArgumentOutOfRange .setPool ⟨14, 2, 0, 0xFFFF, 0⟩) ∧
    (Issues (asking (quiet inRun) 15 2 0 0 0) ∧ ¬ ArgumentOutOfRange .setTiming ⟨15, 2, 0, 0, 0⟩ ∧
      ¬ ArgumentOutOfRange .setTiming ⟨15, 2, 1, 0, 0⟩ ∧ ¬ ArgumentOutOfRange .setTiming ⟨15, 1, 65000, 0, 0⟩ ∧
      ¬ ArgumentOutOfRange .setTiming ⟨15, 3, 1, 0, 0⟩) := by
  refine ⟨⟨issues _ (by decide +kernel), by decide +kernel⟩, ⟨issues _ (by decide +kernel), by decide +kernel⟩,
    issues _ (by decide +kernel), ⟨issues _ (by decide +kernel), ?_⟩, ⟨issues _ (by decide +kernel), ?_⟩⟩ <;>
    simp only [ArgumentOutOfRange] <;> decide +kernel

/-- The scene with the last piece of its entry OUTSTANDING under tag 1. -/
def openPiece (x : PortRecord) : State :=
  scene (some (claim0 1)) (some entry1) { x with tagsInUse := (Vector.replicate 8 false).set 1 true }

/-- R89, row 3: the COMPLETE taken second to link loss is stray, once (log 22). -/
theorem test_complete_after_link_loss :
    let s := after (.presenceLost 2) (openPiece inRun)
    let t := after (.complete 2 1 ⟨1, 0, [1, 2, 3, 4]⟩) s
    (s.portFlag 2 .stray, t.portFlag 2 .stray) = (false, true) ∧
      after (.complete 2 1 ⟨1, 0, [1, 2, 3, 4]⟩) t = t := by decide +kernel

theorem witness_PortStartsListeningAndGreeting :
    (Issues (asking (quiet PortRecord.reset) 6 7 0 0 0) ∧ PortRecord.reset.state ≠ .off ∧ PortRecord.reset.state ≠ .fault) ∧
    (Issues (asking (quiet (inState .fault)) 6 2 0 0 0) ∧ ((asking (quiet (inState .fault)) 6 2 0 0 0).port 2).state = .fault) ∧
    (let x := ((quiet { PortRecord.reset with state := .resetting, resetTimer := some 1000 }).port 2);
      x.state = .resetting ∧ x.resetTimer ≠ none) ∧
    (let x := (quiet PortRecord.reset).port 2; x.present = false ∧ x.state = .listen ∧ x.resetTimer = none) ∧
    (let x := (quiet { PortRecord.reset with present := true }).port 2; x.state = .listen ∧ x.present = true) ∧
    (quiet inRun).port 2 = inRun ∧ inRun.state ≠ .listen ∧ inRun.present = true ∧
    ({ inRun with present := false } : PortRecord).present = false :=
  ⟨⟨issues _ (by decide +kernel), by decide +kernel⟩, ⟨issues _ (by decide +kernel), by decide +kernel⟩, by decide +kernel⟩

theorem witness_DisableAndResetEndSession :
    (Issues (asking (openPiece inRun) 7 2 0 0 0) ∧ EntriesSound (asking (openPiece inRun) 7 2 0 0 0) ∧
      ((asking (openPiece inRun) 7 2 0 0 0).port 2).state ≠ .off) ∧
    (Issues (asking (openPiece inRun) 8 2 0 0 0) ∧ EntriesSound (asking (openPiece inRun) 8 2 0 0 0) ∧
      (asking (openPiece inRun) 8 2 0 0 0).command.code.toNat = 8) ∧
    (Issues (asking (quiet (inState .off)) 8 2 0 0 0) ∧ ((asking (quiet (inState .off)) 8 2 0 0 0).port 2).state = .off) :=
  ⟨⟨issues _ (by decide +kernel), sound _ (by decide +kernel), by decide +kernel⟩,
    ⟨issues _ (by decide +kernel), sound _ (by decide +kernel), by decide +kernel⟩, ⟨issues _ (by decide +kernel), by decide +kernel⟩⟩

theorem witness_LinkErrorsEnterRealign :
    (EntriesSound (openPiece inRun) ∧ ((openPiece inRun).port 2).state.comparing ∧
      messageNumber (.wake 2 2) = some (2, 2) ∧ (2 : Byte) ≠ ((openPiece inRun).port 2).recvSeq ∧
      ((openPiece inRun).port 2).answerTimer = none) ∧
    (EntriesSound (openPiece { inRun with answerTimer := some 1000 }) ∧
      ((openPiece { inRun with answerTimer := some 1000 }).port 2).answerTimer ≠ none) ∧
    (Issues (asking (openPiece inRun) 9 2 0 0 0) ∧ EntriesSound (asking (openPiece inRun) 9 2 0 0 0) ∧
      ((asking (openPiece inRun) 9 2 0 0 0).port 2).state = .run) ∧
    (Issues (asking (quiet (inState .doze)) 9 2 0 0 0) ∧ EntriesSound (asking (quiet (inState .doze)) 9 2 0 0 0) ∧
      ((asking (quiet (inState .doze)) 9 2 0 0 0).port 2).state ≠ .run) :=
  ⟨⟨sound _ (by decide +kernel), by decide +kernel⟩, ⟨sound _ (by decide +kernel), by decide +kernel⟩,
    ⟨issues _ (by decide +kernel), sound _ (by decide +kernel), by decide +kernel⟩,
    ⟨issues _ (by decide +kernel), sound _ (by decide +kernel), by decide +kernel⟩⟩

theorem witness_ExpiryEndsEntriesThenRealigns :
    (let s := openPiece { inState .waking with wakeExitTimer := some 10000 };
      EntriesSound s ∧ (s.port 2).state = .waking ∧ (s.port 2).wakeExitTimer ≠ none ∧
        (s.entry 0 = some entry1 ∧ (s.port entry1.port).state ≠ .run)) ∧
    (EntriesSound (openPiece inRun) ∧ (openPiece inRun).entry 0 = some entry1 ∧ entry1.timer ≠ none ∧
      ((openPiece inRun).port entry1.port).state = .run ∧ (openPiece inRun).entry 31 = none ∧
      ((openPiece inRun).port 2).wakeExitTimer = none) :=
  ⟨⟨sound _ (by decide +kernel), by decide +kernel⟩, sound _ (by decide +kernel), by decide +kernel⟩

/-- The attempt below the limit of 3, and the one that meets it. -/
theorem witness_RealignEndsInRunOrLinkLoss :
    (let s := quiet { inState .realign with attemptTimer := some 2000, realignAttempts := 1 };
      EntriesSound s ∧ (s.port 2).state = .realign ∧ (s.port 2).attemptTimer ≠ none ∧ (s.port 2).identity = some 0x51A7 ∧
        (s.port 2).identity ≠ some 0x51A8 ∧ (s.port 2).realignAttempts + 1 ≠ (s.port 2).realignLimit) ∧
    (let s := quiet { inState .realign with attemptTimer := some 2000, realignAttempts := 2 };
      EntriesSound s ∧ (s.port 2).realignAttempts + 1 = (s.port 2).realignLimit) ∧
    (EntriesSound (quiet inRun) ∧ ((quiet inRun).port 2).state ≠ .realign) :=
  ⟨⟨sound _ (by decide +kernel), by decide +kernel⟩, ⟨sound _ (by decide +kernel), by decide +kernel⟩,
    sound _ (by decide +kernel), by decide +kernel⟩

theorem witness_PresenceLossOrphansClaims :
    (EntriesSound (openPiece inRun) ∧ ((openPiece inRun).port 2).present = true ∧ ((openPiece inRun).port 2).state.linked = true ∧
      ((openPiece inRun).port 2).holdTimer = none) ∧
    (let x := (quiet { PortRecord.reset with present := true, state := .greet, holdTimer := some 500 }).port 2;
      x.present = true ∧ x.state = .greet ∧ x.holdTimer ≠ none) ∧
    (let x := (quiet { PortRecord.reset with present := true }).port 2;
      x.present = true ∧ x.state ∈ [.off, .listen, .resetting, .fault]) ∧
    ((quiet PortRecord.reset).port 2).present = false :=
  ⟨⟨sound _ (by decide +kernel), by decide +kernel⟩, by decide +kernel⟩

/-- A HELLO of credit 1 and of 8, with no orphan, with orphans of its identity, and with one of another. -/
theorem witness_GoodHelloOpensSession :
    let m : HelloMsg := ⟨0x51A7, 8, true, 1⟩
    let greeting : PortRecord := { PortRecord.reset with present := true, state := .greet, greetTimer := some 20000 }
    (m.revision = 1 ∧ 1 ≤ m.credit.toNat ∧ m.credit.toNat ≤ 8 ∧ (1 : Byte).toNat = 1) ∧
    (((quiet greeting).port 2).state = .greet ∧ (quiet greeting).orphans 2 = []) ∧
    (let s := scene (some (orphan 0 0x80000000)) none greeting;
      s.orphans 2 ≠ [] ∧ m.identity ≠ 0 ∧ ∀ n ∈ s.orphans 2, ∀ c, s.claim n = some c → c.owner.identity = m.identity) ∧
    (let s := scene (some (orphan 0 0x80000000)) none greeting;
      s.orphans 2 ≠ [] ∧ ¬ (∀ n ∈ s.orphans 2, ∀ c, s.claim n = some c → c.owner.identity = 0x51A8)) := by
  refine ⟨by decide +kernel, by decide +kernel, ⟨by decide +kernel, by decide +kernel, fun n _ c hc => ?_⟩, by decide +kernel,
    fun h => ?_⟩
  · revert n
    intro n hn hc
    exact claims_forall (scene (some (orphan 0 0x80000000)) none { PortRecord.reset with
        present := true, state := .greet, greetTimer := some 20000 })
      (fun n c => n ∈ (scene (some (orphan 0 0x80000000)) none { PortRecord.reset with
        present := true, state := .greet, greetTimer := some 20000 }).orphans 2 → c.owner.identity = 0x51A7)
      (by decide +kernel) n c hc hn
  · exact absurd (h 1 (by decide +kernel) (orphan 0 0x80000000) (by decide +kernel)) (by decide +kernel)

/-- The third failure and the fourth; a credit of 0 and of 9. -/
theorem witness_GreetFailureListensOrFaults :
    let x (n : Nat) : PortRecord := (quiet { PortRecord.reset with state := .greet, greetTimer := some 20000, greetFailures := n }).port 2
    ((x 2).state = .greet ∧ (x 2).greetTimer ≠ none ∧ (x 2).greetFailures + 1 < 4 ∧ ¬ (x 3).greetFailures + 1 < 4) ∧
    (¬ ((1 : Byte) = 1 ∧ 1 ≤ (0 : Byte).toNat ∧ (0 : Byte).toNat ≤ 8) ∧
      ¬ ((1 : Byte) = 1 ∧ 1 ≤ (9 : Byte).toNat ∧ (9 : Byte).toNat ≤ 8)) ∧
    ((quiet inRun).port 2).state ≠ .greet := by decide +kernel

theorem witness_MessagesOutOfPlaceDropOrRaiseProtocol :
    (((quiet PortRecord.reset).port 2).state ∈ [.off, .listen, .resetting, .fault] ∧ messageNumber (.notice 2 0 7) = some (2, 0)) ∧
    (let s := after (.presenceLost 2) (openPiece { inRun with credit := 8 });
      (s.port 2).state ∈ [.off, .listen, .resetting, .fault] ∧ (List.replicate 8 (0 : Byte)).length ≤ 8 ∧
      (1 : PieceTag).val = (1 : Byte).toNat ∧ (s.port 2).endedTags[(1 : PieceTag)] = true ∧
      (s.port 2).endedTags[(7 : PieceTag)] = false) ∧
    (((quiet (inState .greet)).port 2).state = .greet ∧ messageNumber (.wake 2 0) = some (2, 0) ∧ isPowerMessage (.wake 2 0)) ∧
    (Arrives (quiet inRun) 2 1 ∧ ((quiet inRun).port 2).state ≠ .greet ∧ ((quiet inRun).port 2).state.comparing) :=
  ⟨by decide +kernel, by decide +kernel, ⟨by decide +kernel, by decide +kernel, trivial⟩, by decide +kernel⟩

/-! ### Claim messages and pieces -/

/-- Lists of 15 and of 16 messages. -/
theorem witness_ClaimMessageJoinsReceiveList :
    let s (n : Nat) : State := quiet { inRun with receiveList := List.replicate n (.release 0) }
    (Arrives (s 15) 2 1 ∧ ((s 15).port 2).state = .run ∧ ((s 15).port 2).receiveList.length < 16) ∧
    (Arrives (s 16) 2 1 ∧ 16 ≤ ((s 16).port 2).receiveList.length) := by decide +kernel

theorem witness_TakingWaitsForItsTurn :
    ((quiet (inState .doze)).port 2).state ≠ .run ∧ ((quiet inRun).port 2).receiveList = [] ∧
    (let x := (quiet { inRun with receiveList := [.release 0], owed := [.released 0] }).port 2;
      x.receiveList = .release 0 :: [] ∧ OwedFor x 0 ∧ takes 2 (.release 0) ≠ takes 2 (.claim firstClaim)) :=
  ⟨by decide +kernel, by decide +kernel, by decide +kernel, ⟨.released 0, by decide +kernel, by decide +kernel⟩, by decide +kernel⟩

/-- The first claim message of section 11.6, and a full claim on it in the last address of the pool. -/
def taking (m : ClaimMessage) (x : PortRecord) : PortRecord :=
  { x with receiveList := [m] }

theorem mayTake (s : State) (m : ClaimMessage) (h : (s.port 2).state = .run) (h1 : (s.port 2).receiveList = [m])
    (h2 : (s.port 2).owed = []) : MayTake s 2 m [] :=
  ⟨h, h1, fun ⟨o, ho, _⟩ => by simp [h2] at ho⟩

theorem witness_TakeClaimAdmitsClaim :
    (let s := scene none none (taking (.claim firstClaim) inRun);
      MayTake s 2 (.claim firstClaim) [] ∧ (s.port 2).identity = some 0x51A7 ∧ firstClaim.spaceCode.toNat = Space.code .mem ∧
        GoodShape .mem none 0x10000 (some 4) ∧ InPool (s.pool .mem) none 0x10000 ∧ HandleUnused s 2 0 ∧
        (s.port 2).claimCount ≠ (s.port 2).quota ∧ LowestFreeSlot s 1 ∧ RoomFor s .mem none 0x10000 none 0x80000000) ∧
    (let m : ClaimFields := ⟨15, 2, 4, false, true, true, 0xFFF0, 16⟩;
      let s := quiet (taking (.claim m) inRun);
      MayTake s 2 (.claim m) [] ∧ GoodShape .io (some 0xFFF0) 16 (some 4) ∧ InPool (s.pool .io) (some 0xFFF0) 16 ∧
        HandleUnused s 2 15 ∧ LowestFreeSlot s 2 ∧ RoomFor s .io (some 0xFFF0) 16 none 0xFFF0) := by
  refine ⟨⟨mayTake _ _ (by decide +kernel) (by decide +kernel) (by decide +kernel), by decide +kernel, by decide +kernel,
    goodShape _ _ _ _ (by decide +kernel), (fun b hb => by cases hb), handleUnused _ _ _ (by decide +kernel), by decide +kernel,
    ⟨by decide, by decide +kernel, by decide +kernel⟩, ⟨0, by decide +kernel, by decide +kernel, vacant _ _ _ _ _ (by decide +kernel),
      fun j hj => absurd hj (Nat.not_lt_zero j)⟩⟩,
    ⟨mayTake _ _ (by decide +kernel) (by decide +kernel) (by decide +kernel), goodShape _ _ _ _ (by decide +kernel),
      (fun b hb => by cases hb; decide +kernel), handleUnused _ _ _ (by decide +kernel), ⟨by decide, by decide +kernel, by decide +kernel⟩,
      ⟨rfl, vacant _ _ _ _ _ (by decide +kernel)⟩⟩⟩

theorem not_inPool (q : Pool) (b size : Nat) (h : ¬ (q.first ≤ b ∧ b + size - 1 ≤ q.last)) : ¬ InPool q (some b) size :=
  fun hp => h (hp b rfl)

theorem witness_TakeClaimRefusesInOrder :
    let claimAt (handle : Handle) (base size : Word) : ClaimFields := ⟨handle, 1, 4, false, false, false, base, size⟩
    let s (m : ClaimFields) : State := quiet (taking (.claim m) inRun)
    let good := claimAt 1 0x80000000 0x1000
    let full : State := quiet { taking (.claim good) inRun with claimCount := 8 }
    (∀ m, MayTake (s m) 2 (.claim m) []) ∧
    (∀ sp, (claimAt 1 0x80000000 0x1001).spaceCode.toNat = Space.code sp → ¬ GoodShape sp (some 0x80000000) 0x1001 (some 4)) ∧
    (GoodShape .mem (some 0x7FFFF000) 0x1000 (some 4) ∧ ¬ InPool ((s good).pool .mem) (some 0x7FFFF000) 0x1000) ∧
    (GoodShape .mem (some 0x80000000) 0x1000 (some 4) ∧ InPool ((s good).pool .mem) (some 0x80000000) 0x1000 ∧
      ¬ HandleUnused (s good) 2 0) ∧
    (MayTake full 2 (.claim good) [] ∧ HandleUnused full 2 1 ∧ (full.port 2).claimCount = (full.port 2).quota) ∧
    (HandleUnused (s good) 2 1 ∧ ((s good).port 2).claimCount ≠ ((s good).port 2).quota ∧ ¬ NoFreeSlot (s good) ∧
      NoRoomFor (s good) .mem (some 0x80000000) 0x1000 none .overlap) ∧
    NoFreeSlot (noSlot (s (claimAt 1 0x80010000 0x1000))) := by
  refine ⟨fun m => mayTake _ _ rfl rfl rfl, fun sp _ => ?_, ⟨goodShape _ _ _ _ (by decide +kernel),
      not_inPool _ _ _ (by decide +kernel)⟩,
    ⟨shape_page _ (.inr rfl), (fun b hb => by cases hb; decide +kernel), fun h => ?_⟩,
    ⟨mayTake _ _ (by decide +kernel) (by decide +kernel) (by decide +kernel), handleUnused _ _ _ (by decide +kernel), by decide +kernel⟩,
    ⟨handleUnused _ _ _ (by decide +kernel), by decide +kernel, fun h => h 2 (by decide) (by decide +kernel), rfl, ?_⟩, noFreeSlot _⟩
  · refine not_goodShape _ _ _ _ (.inl ?_)
    cases sp <;> decide +kernel
  · exact absurd (h 1 (claim0 0) (by decide +kernel)) (by decide +kernel)
  · exact not_vacant _ _ _ _ _ 1 (claim0 0) (by decide +kernel) (by decide) rfl (by decide +kernel) (by decide +kernel) (by decide +kernel)

/-- The reshape of section 11.9, with nothing in flight and with one access; a handle that is not in use; a claim in motion. -/
theorem witness_TakeReshapeMovesClaim :
    let m : ReshapeFields := ⟨0, false, 0x80000000, 0x20000⟩
    (let s := quiet (taking (.reshape m) inRun);
      MayTake s 2 (.reshape m) [] ∧ HandleLaw s ∧ EntriesSound s ∧ s.claim 1 = some (claim0 0) ∧ (claim0 0).carries 2 m.handle = true ∧
        GoodShape .mem (some 0x80000000) 0x20000 none ∧ InPool (s.pool .mem) (some 0x80000000) 0x20000 ∧
        (claim0 0).phase.inMotion = false ∧ RoomFor s .mem (some 0x80000000) 0x20000 (some 1) 0x80000000 ∧ HandleUnused s 2 5) ∧
    (let s := busyClaim (taking (.reshape m) inRun);
      MayTake s 2 (.reshape m) [] ∧ HandleLaw s ∧ EntriesSound s ∧ s.claim 1 = some (claim0 1) ∧ (claim0 1).inFlight ≠ 0 ∧
        RoomFor s .mem (some 0x80000000) 0x20000 (some 1) 0x80000000) ∧
    (let s := (quiet (taking (.reshape m) inRun)).setClaim 2 (some ⟨.fence, .mem, 0x80010000, 0x1000, .live, 0⟩);
      MayTake s 2 (.reshape m) [] ∧ HandleLaw s ∧ NoRoomFor s .mem (some 0x80000000) 0x20000 (some 1) .overlap) ∧
    ({ claim0 0 with phase := .draining .release } : Claim).phase.inMotion = true := by
  refine ⟨⟨mayTake _ _ rfl rfl rfl, handleLaw _ (by decide +kernel), sound _ (by decide +kernel), by decide +kernel, by decide +kernel,
      goodShape _ _ _ _ (by decide +kernel), (fun b hb => by cases hb; decide +kernel), by decide +kernel,
      ⟨rfl, vacant _ _ _ _ _ (by decide +kernel)⟩, handleUnused _ _ _ (by decide +kernel)⟩,
    ⟨mayTake _ _ (by decide +kernel) (by decide +kernel) (by decide +kernel), handleLaw _ (by decide +kernel),
      sound _ (by decide +kernel), by decide +kernel, by decide +kernel, ⟨rfl, vacant _ _ _ _ _ (by decide +kernel)⟩⟩,
    ⟨mayTake _ _ (by decide +kernel) (by decide +kernel) (by decide +kernel), handleLaw _ (by decide +kernel), rfl,
      not_vacant _ _ _ _ _ 2 ⟨.fence, .mem, 0x80010000, 0x1000, .live, 0⟩ (by decide +kernel) (by decide) rfl (by decide +kernel)
        (by decide +kernel) (by decide +kernel)⟩, rfl⟩

/-- The same entry on a claim of the host, port 2. -/
def routeClaim : Claim := ⟨.route 2 attributes, .mem, 0x80000000, 0x10000, .live, 1⟩

theorem witness_RetirementDrainsClaim :
    (let s := busyClaim (taking (.release 0) inRun);
      HandleLaw s ∧ EntriesSound s ∧ MayTake s 2 (.release 0) [] ∧ s.claim 1 = some (claim0 1) ∧ (claim0 1).carries 2 0 = true ∧
        (claim0 1).phase.inMotion = false ∧ (claim0 1).inFlight ≠ 0) ∧
    (let s := quiet (taking (.release 0) inRun);
      HandleLaw s ∧ EntriesSound s ∧ MayTake s 2 (.release 0) [] ∧ s.claim 1 = some (claim0 0) ∧ (claim0 0).inFlight = 0) ∧
    (let s := quiet (taking (.release 15) inRun);
      HandleLaw s ∧ EntriesSound s ∧ MayTake s 2 (.release 15) [] ∧ HandleUnused s 2 15) ∧
    (let s := asking (scene (some routeClaim) (some entry0) { inRun with issueList := [0] }) 2 1 0 0 0;
      HandleLaw s ∧ EntriesSound s ∧ Issues s ∧ s.command.arg0.toNat = (1 : SlotNo).val ∧ s.claim 1 = some routeClaim ∧
        routeClaim.inFlight ≠ 0 ∧ routeClaim.port = some 2 ∧ routeClaim.isBoard = false ∧ routeClaim.phase = .live) ∧
    (let s := asking (busyClaim inRun) 3 1 0 0 0;
      HandleLaw s ∧ EntriesSound s ∧ Issues s ∧ (claim0 1).port = some 2 ∧ (claim0 1).isBoard = true ∧ (claim0 1).phase = .live) :=
  ⟨⟨handleLaw _ (by decide +kernel), sound _ (by decide +kernel), mayTake _ _ (by decide +kernel) (by decide +kernel) (by decide +kernel),
      by decide +kernel⟩,
    ⟨handleLaw _ (by decide +kernel), sound _ (by decide +kernel), mayTake _ _ (by decide +kernel) (by decide +kernel) (by decide +kernel),
      by decide +kernel⟩,
    ⟨handleLaw _ (by decide +kernel), sound _ (by decide +kernel), mayTake _ _ (by decide +kernel) (by decide +kernel) (by decide +kernel),
      handleUnused _ _ _ (by decide +kernel)⟩,
    ⟨handleLaw _ (by decide +kernel), sound _ (by decide +kernel), issues _ (by decide +kernel), by decide +kernel⟩,
    ⟨handleLaw _ (by decide +kernel), sound _ (by decide +kernel), issues _ (by decide +kernel), by decide +kernel⟩⟩

theorem witness_OwedMessageSentInRun :
    (let x := (quiet { inRun with owed := [.noticeAck], noticeAckOwed := true }).port 2;
      x.state = .run ∧ x.handshake = .none ∧ x.owed = .noticeAck :: []) ∧
    ((quiet { inRun with handshake := .dozeReq }).port 2).handshake ≠ .none := by decide +kernel

/-- A credit of 4 with tag 3 the last free one, and with none free. -/
theorem witness_PieceIssueSendsAccess :
    (let s := busyClaim { inRun with tagsInUse := ((Vector.replicate 8 true).set 3 false) };
      (s.port 2).state = .run ∧ (s.port 2).handshake = .none ∧ (s.port 2).issueList = 0 :: [] ∧ s.entry 0 = some entry0 ∧
        LowestFreeTag (s.port 2) 3) ∧
    NoFreeTag ((busyClaim { inRun with tagsInUse := ((Vector.replicate 8 true).set 4 false) }).port 2) := by
  unfold LowestFreeTag NoFreeTag
  decide +kernel

/-- The fourth piece of section 11.7 answered, the second of four, a tag with no piece, and 9 data bytes. -/
theorem witness_CompleteEndsPiece :
    (Arrives (openPiece inRun) 2 1 ∧ EntriesSound (openPiece inRun) ∧ PieceTagLaw (openPiece inRun) ∧
      (openPiece inRun).entry 0 = some entry1 ∧ entry1.port = 2 ∧ (1 : PieceTag).val = (1 : Byte).toNat ∧
      entry1.pieces[3]? = some (.outstanding 1) ∧ (∀ o ∈ (afterPiece entry1 3 ⟨1, 0, [1, 2, 3, 4]⟩).pieces, o.closed)) ∧
    (let e : Entry := { entry1 with pieces := [.ended .ok, .outstanding 1, .notIssued, .notIssued], issued := 2, completed := 1 };
      let s := scene (some (claim0 1)) (some e) { inRun with
        issueList := [0], tagsInUse := (Vector.replicate 8 false).set 1 true };
      Arrives s 2 1 ∧ EntriesSound s ∧ PieceTagLaw s ∧ s.entry 0 = some e ∧ e.pieces[1]? = some (.outstanding 1) ∧
        ¬ (∀ o ∈ (afterPiece e 1 ⟨1, 0, [1, 2, 3, 4]⟩).pieces, o.closed)) ∧
    (Arrives (openPiece inRun) 2 1 ∧ ∀ k e, (openPiece inRun).entry k = some e → ∀ t : PieceTag, e.port = 2 → t.val = (2 : Byte).toNat →
      PieceOutcome.outstanding t ∉ e.pieces) ∧
    8 < (List.replicate 9 (0 : Byte)).length :=
  ⟨⟨by decide +kernel, sound _ (by decide +kernel), pieceTagLaw _ (by decide +kernel), by decide +kernel⟩,
    ⟨by decide +kernel, sound _ (by decide +kernel), pieceTagLaw _ (by decide +kernel), by decide +kernel⟩,
    ⟨by decide +kernel, entries_forall _ _ (by decide +kernel)⟩, by decide⟩

/-! ### Power, notices, steps -/

theorem portEmpty (s : State) (h : allEntries.all (fun k => (s.entry k).all fun e => decide (e.port ≠ 2)) = true)
    (h1 : (s.port 2).owed = []) (h2 : (s.port 2).receiveList = []) : PortEmpty s 2 :=
  ⟨noEntryOf s 2 h, h1, h2⟩

theorem witness_DozeHandshakeEntersDoze :
    (PortEmpty (quiet inRun) 2 ∧ ((quiet inRun).port 2).state = .run ∧ ((quiet inRun).port 2).dozeIdleTimer ≠ none ∧
      ((quiet inRun).port 2).handshake = .none ∧ ((quiet inRun).port 2).handshake ≠ .dozeReq) ∧
    (¬ PortEmpty (busyClaim inRun) 2 ∧ ((busyClaim inRun).port 2).dozeIdleTimer ≠ none) ∧
    (let x := (quiet { inRun with handshake := .dozeReq, dozeIdleTimer := none }).port 2;
      x.state = .run ∧ x.handshake = .dozeReq ∧ x.dozeIdleTimer = none) ∧
    ((quiet (inState .waking)).port 2).state.comparing :=
  ⟨⟨portEmpty _ (by decide +kernel) (by decide +kernel) (by decide +kernel), by decide +kernel⟩,
    ⟨fun h => h.1 0 entry0 (by decide +kernel) rfl, by decide +kernel⟩, by decide +kernel⟩

theorem witness_SleepHandshakeEntersSleep :
    (Issues (asking (quiet inRun) 10 2 0 0 0) ∧ NoEntryOf (asking (quiet inRun) 10 2 0 0 0) 2 ∧
      ((asking (quiet inRun) 10 2 0 0 0).port 2).handshake = .none) ∧
    (Issues (asking (busyClaim inRun) 10 2 0 0 0) ∧ ¬ NoEntryOf (asking (busyClaim inRun) 10 2 0 0 0) 2 ∧ ¬ PortEmpty (busyClaim inRun) 2) ∧
    (Issues (asking (quiet (inState .doze)) 10 2 0 0 0) ∧ ((asking (quiet (inState .doze)) 10 2 0 0 0).port 2).state ≠ .run) ∧
    (let x := (quiet { inRun with handshake := .sleepReq }).port 2; x.state = .run ∧ x.handshake = .sleepReq) ∧
    (PortEmpty (quiet { inRun with handshake := .dozeReq }) 2 ∧
      ((quiet { inRun with handshake := .dozeReq }).port 2).handshake ≠ .sleepReq) ∧
    (((quiet (inState .doze)).port 2).state = .doze ∧ ((quiet (inState .sleep)).port 2).state = .sleep ∧
      ((quiet (inState .waking)).port 2).state = .waking) :=
  ⟨⟨issues _ (by decide +kernel), noEntryOf _ _ (by decide +kernel), by decide +kernel⟩,
    ⟨issues _ (by decide +kernel), fun h => h 0 entry0 (by decide +kernel) rfl, fun h => h.1 0 entry0 (by decide +kernel) rfl⟩,
    ⟨issues _ (by decide +kernel), by decide +kernel⟩, by decide +kernel,
    ⟨portEmpty _ (by decide +kernel) (by decide +kernel) (by decide +kernel), by decide +kernel⟩, by decide +kernel⟩

theorem witness_WakeReturnsPortToRun :
    (Issues (asking (quiet inRun) 11 2 0 0 0) ∧ ((asking (quiet inRun) 11 2 0 0 0).port 2).state = .run) ∧
    (Issues (asking (quiet (inState .sleep)) 11 2 0 0 0) ∧ ((asking (quiet (inState .sleep)) 11 2 0 0 0).port 2).state = .sleep) ∧
    (Issues (asking (quiet (inState .waking)) 11 2 0 0 0) ∧ ((asking (quiet (inState .waking)) 11 2 0 0 0).port 2).state = .waking) ∧
    ((quiet (inState .doze)).port 2).state = .doze :=
  ⟨⟨issues _ (by decide +kernel), by decide +kernel⟩, ⟨issues _ (by decide +kernel), by decide +kernel⟩,
    ⟨issues _ (by decide +kernel), by decide +kernel⟩, by decide +kernel⟩

theorem witness_NoticeStoredOrRefused :
    (Arrives (quiet inRun) 2 1 ∧ ((quiet inRun).port 2).state = .run ∧ ((quiet inRun).port 2).notice = none) ∧
    (Arrives (quiet { inRun with notice := some 7 }) 2 1 ∧ ((quiet { inRun with notice := some 7 }).port 2).notice ≠ none) ∧
    (Arrives (quiet (inState .sleep)) 2 1 ∧ ((quiet (inState .sleep)).port 2).state ≠ .run) := by decide +kernel

/-- A state of a run with an access in flight that meets every law, and a step of it that ends the access. -/
def stepping : State :=
  { openPiece { inRun with claimCount := 1 } with pending := [.complete 2 1 ⟨1, 0, [1, 2, 3, 4]⟩] }

def stepped : State :=
  after (.complete 2 1 ⟨1, 0, [1, 2, 3, 4]⟩) (openPiece { inRun with claimCount := 1 })

theorem stepping_steps : step stepping = .next stepped := rfl

theorem witness_StepKeepsAttention :
    (stepping.attn = true ↔ (stepping.globalFlags &&& stepping.maskGlobal ≠ 0 ∨
      ∃ p : Port, (stepping.port p).flags &&& stepping.maskPort ≠ 0)) ∧ step stepping = .next stepped :=
  ⟨by decide +kernel, stepping_steps⟩

theorem witness_StepKeepsClaimsDisjoint : OverlapLaw stepping ∧ step stepping = .next stepped :=
  ⟨overlapLaw _ (by decide +kernel), stepping_steps⟩

theorem witness_StepKeepsClaimTableLaws :
    WindowLaw stepping ∧ HandleLaw stepping ∧ QuotaLaw stepping ∧ BoundLaw stepping ∧ SessionLaw stepping ∧ BoardClaimLaw stepping ∧
      step stepping = .next stepped :=
  ⟨windowLaw _ (by decide +kernel), handleLaw _ (by decide +kernel), by decide +kernel, boundLaw _ (by decide +kernel),
    by decide +kernel, boardClaimLaw _ (by decide +kernel), stepping_steps⟩

theorem witness_StepKeepsInFlightCounts : BoundLaw stepping ∧ step stepping = .next stepped :=
  ⟨boundLaw _ (by decide +kernel), stepping_steps⟩

theorem witness_StepKeepsAnswersDistinctAndInRoom : TagLaw stepping ∧ CompletionRoom stepping ∧ step stepping = .next stepped :=
  ⟨fun j k hjk d e hd he => entry_pairs stepping (fun j d k e => j ≠ k → d.owes = e.owes → d.owes = none) (by decide +kernel)
    j k d e hd he hjk, by decide +kernel, stepping_steps⟩

theorem witness_StepKeepsEntryShape :
    EntryLaw stepping ∧ PieceTagLaw stepping ∧ OutstandingLaw stepping ∧ PurgedLaw stepping ∧ step stepping = .next stepped :=
  ⟨entryLaw _ (by decide +kernel), pieceTagLaw _ (by decide +kernel), outstandingLaw _ (by decide +kernel),
    purgedLaw _ (by decide +kernel), stepping_steps⟩

theorem witness_StepKeepsPortLaws :
    SettingsLaw stepping ∧ SessionLaw stepping ∧ HandshakeLaw stepping ∧ ClosedListsLaw stepping ∧ IdleTimerLaw stepping ∧
      ReceiveRoom stepping ∧ step stepping = .next stepped :=
  ⟨by decide +kernel, by decide +kernel, by decide +kernel, by decide +kernel, by decide +kernel, by decide +kernel, stepping_steps⟩

theorem witness_BoardFramesAreReadBack :
    (Instr.complete 7 255 ⟨7, 0, List.replicate 8 0xFF⟩).wellFormed = true ∧
      boardPort (.complete 7 255 ⟨7, 0, List.replicate 8 0xFF⟩) = some 7 ∧
      (boardFrame (.complete 7 255 ⟨7, 0, List.replicate 8 0xFF⟩)).isSome := by decide +kernel

/-- The link of port 2 is lost, with a fence of the host and another port's claim and record beside it. -/
theorem witness_PortsAreIsolated :
    let s := ((fenceAt63 (openPiece inRun)).setClaim 2 (some { orphan 0 0x80010000 with
      owner := .board 3 0 0x51A7 attributes, phase := .live })).setPort 3 inRun
    linkOf (.presenceLost 2) = some 2 ∧ BindingLaw s ∧ EntryLaw s ∧ exec (.presenceLost 2) s = .next (after (.presenceLost 2) s) ∧
      (s.claim 2).bind Claim.port = some 3 ∧ (3 : Port) ≠ 2 :=
  ⟨rfl, (boundLaw _ (by decide +kernel)).2.1, entryLaw _ (by decide +kernel), rfl, by decide +kernel, by decide⟩
end Sys2Proof.Tests
end

section
/-! PROOFS. The board claim protocol: owed messages, the taking and the arrival of claim messages, the acknowledgement of notices,
and the HELLO that opens a session. -/

namespace Sys2Proof.Machine

open Sys2Proof

/-! ### OWED_MESSAGE_SEND (R36, R37) -/

theorem execOwedMessageSend_send {s : State} {p : Port} {m : OwedMessage} {rest : List OwedMessage}
    (hrun : (s.port p).state = .run) (hshake : (s.port p).handshake = .none) (howed : (s.port p).owed = m :: rest) :
    execOwedMessageSend p s = .next (s.setPort p (s.sentRecord
      { s.port p with
        owed := rest, noticeAckOwed := if m = .noticeAck then false else (s.port p).noticeAckOwed } (.owed m))) := by
  have hmark : ((s.port p).noticeAckOwed && decide (m ≠ .noticeAck)) =
      if m = .noticeAck then false else (s.port p).noticeAckOwed := by
    by_cases hm : m = .noticeAck <;> simp [hm]
  rw [execOwedMessageSend, if_pos ⟨hrun, hshake⟩]
  simp only [howed, State.transmit_eq, State.modifyPort_eq_setPort, State.port_setPort_self, State.setPort_setPort, hmark]
  rfl

theorem execOwedMessageSend_idle {s : State} {p : Port}
    (h : (s.port p).state ≠ .run ∨ (s.port p).handshake ≠ .none ∨ (s.port p).owed = []) :
    execOwedMessageSend p s = .next s := by
  rw [execOwedMessageSend]
  split
  next hready =>
    have howed : (s.port p).owed = [] := by simpa [hready] using h
    simp only [howed]
  next => rfl

/-- Settles O45: one lemma for the sending and one for the cases in which there is none. -/
theorem owedMessageSentInRun : Obligations.OwedMessageSentInRun :=
  fun _ _ => ⟨fun _ _ => execOwedMessageSend_send, execOwedMessageSend_idle⟩

/-! ### Taking (R26) -/

theorem PortRecord.owes_iff (x : PortRecord) (h : Handle) : x.owes h = true ↔ OwedFor x h := by
  simp [PortRecord.owes, OwedFor]

theorem PortRecord.takeable_eq_some_iff (x : PortRecord) (m : ClaimMessage) :
    x.takeable = some m ↔ x.state = .run ∧ (∃ rest, x.receiveList = m :: rest) ∧ ¬ OwedFor x m.handle := by
  rw [← PortRecord.owes_iff, PortRecord.takeable]
  by_cases hrun : x.state = .run
  · cases hlist : x.receiveList with
    | nil => simp
    | cons n rest =>
      have hhead : (∃ rest', n :: rest = m :: rest') ↔ n = m := by simp
      simp only [hrun, if_true, true_and, hhead, Option.ite_none_left_eq_some, Option.some.injEq]
      constructor
      · rintro ⟨hfree, rfl⟩
        exact ⟨rfl, hfree⟩
      · rintro ⟨rfl, hfree⟩
        exact ⟨hfree, rfl⟩
  · simp [hrun]

theorem execTakeClaim_idle {s : State} {p : Port} (h : ∀ m, (s.port p).takeable ≠ some (.claim m)) :
    execTakeClaim p s = .next s := by
  unfold execTakeClaim
  split
  next m hm => exact absurd hm (h m)
  all_goals rfl

theorem execTakeReshape_idle {s : State} {p : Port} (h : ∀ m, (s.port p).takeable ≠ some (.reshape m)) :
    execTakeReshape p s = .next s := by
  unfold execTakeReshape
  split
  next m hm => exact absurd hm (h m)
  all_goals rfl

theorem execTakeRelease_idle {s : State} {p : Port} (h : ∀ k, (s.port p).takeable ≠ some (.release k)) :
    execTakeRelease p s = .next s := by
  unfold execTakeRelease
  split
  next k hk => exact absurd hk (h k)
  all_goals rfl

/-- A taking command does nothing unless the message that may be taken is of its own kind. -/
theorem exec_takes_idle {s : State} {p : Port} {m : ClaimMessage}
    (h : ∀ n, (s.port p).takeable = some n → takes p n ≠ takes p m) : exec (takes p m) s = .next s := by
  cases m with
  | claim m => exact execTakeClaim_idle fun _ hn => h _ hn rfl
  | reshape m => exact execTakeReshape_idle fun _ hn => h _ hn rfl
  | release k => exact execTakeRelease_idle fun _ hn => h _ hn rfl

/-- Settles O40: in each clause the engine may take no message, or one of another kind. -/
theorem takingWaitsForItsTurn : Obligations.TakingWaitsForItsTurn := by
  intro s p m
  have idle := @exec_takes_idle s p m
  simp only [PortRecord.takeable_eq_some_iff] at idle
  refine ⟨fun hstate => idle ?_, fun hempty => idle ?_, fun n rest hlist hwait => idle ?_⟩
  · rintro n ⟨hrun, -⟩
    exact absurd hrun hstate
  · rintro n ⟨-, ⟨rest, hlist⟩, -⟩
    simp [hempty] at hlist
  · rintro k ⟨-, ⟨rest', hlist'⟩, hfree⟩
    obtain ⟨rfl, -⟩ : n = k ∧ rest = rest' := by simpa [hlist] using hlist'
    exact hwait.resolve_left hfree

/-! ### Claim messages arrive (R25) -/

/-- A message that arrives is judged in the state in which its number has been taken (R95, R96). -/
theorem State.receive_arrives {s : State} {p : Port} {seq : Byte} (h : Arrives s p seq) (act : State → State) :
    s.receive p seq act = act (s.judged p) := by
  have uncompared (hst : (s.port p).state = .greet ∨ (s.port p).state = .realign) :
      s.receive p seq act = act (s.judged p) := by
    rw [State.receive_uncompared hst, State.judged, if_pos hst]
  rcases h with h | h | ⟨hcmp, hseq⟩
  · exact uncompared (.inl h)
  · exact uncompared (.inr h)
  · have hst : ¬ ((s.port p).state = .greet ∨ (s.port p).state = .realign) := by
      rcases hcmp with h | h | h | h <;> simp [h]
    rw [State.receive_heard hcmp hseq, State.judged, if_neg hst]

theorem State.judged_of_run {s : State} {p : Port} (h : (s.port p).state = .run) : s.judged p = s.heard p := by
  simp [State.judged, h]

@[simp] theorem State.state_port_judged (s : State) (p : Port) : ((s.judged p).port p).state = (s.port p).state := by
  unfold State.judged
  split <;> simp [State.heardRecord]

@[simp] theorem State.receiveList_port_judged (s : State) (p : Port) :
    ((s.judged p).port p).receiveList = (s.port p).receiveList := by
  unfold State.judged
  split <;> simp [State.heardRecord]

theorem State.protocolError_eq (s : State) (p : Port) : s.protocolError p = s.protocolRaised p :=
  rfl

theorem exec_deliversClaimMessage (s : State) (p : Port) (seq : Byte) (m : ClaimMessage) :
    exec (deliversClaimMessage p seq m) s = .next (s.receive p seq fun t => t.queueClaimMessage p m) := by
  cases m <;> rfl

/-- Settles O39: the message is judged after its number is taken, which leaves the port's state and its list as they were. -/
theorem claimMessageJoinsReceiveList : Obligations.ClaimMessageJoinsReceiveList := by
  intro s p seq m harr
  have hexec : exec (deliversClaimMessage p seq m) s = .next ((s.judged p).queueClaimMessage p m) := by
    rw [exec_deliversClaimMessage, State.receive_arrives harr]
  refine ⟨fun hrun hroom => ?_, fun hrefused => ?_⟩
  · rw [hexec, State.queueClaimMessage, if_pos (by simp [hrun, hroom, receiveLimit]), State.judged_of_run hrun]
    simp [State.heard, State.modifyPort_eq_setPort, State.heardRecord]
  · have hno : ¬ ((s.port p).state = .run ∧ (s.port p).receiveList.length < 16) := by
      rw [not_and_or, not_lt]; exact hrefused
    rw [hexec, State.queueClaimMessage, if_neg (by simpa [receiveLimit] using hno), State.protocolError_eq]

/-! ### A window write of a lane (R59, R61) -/

theorem WordLane.aligned_in_word {word : Nat} (hword : word % 4 = 0) (l : WordLane) :
    (word + l.offset) % l.bytes.length = 0 := by
  have hdvd : l.bytes.length ∣ 4 := by
    cases l <;> simp [WordLane.bytes, wordBytes]
  exact Nat.mod_eq_zero_of_dvd
    (Nat.dvd_add (hdvd.trans (Nat.dvd_of_mod_eq_zero hword)) (Nat.dvd_of_mod_eq_zero (WordLane.offset_aligned l)))

/-- A write of a lane of a word of the window, taken at once: the write of the word's register, answered OK. -/
theorem State.hostWindowWrite_lane {s : State} {tag : HostTag} (h : HostReady s tag) {word : Nat} (hword : word % 4 = 0)
    (hlt : word < 0x1000) (l : WordLane) :
    s.hostWindowWrite tag (word + l.offset) l.bytes =
      (s.writeRegister (registerAt word) (laneMask l.offset l.bytes.length) (laneValue l.offset l.bytes)).answered tag .ok [] := by
  have hend := WordLane.offset_lt l
  have hlength : 1 ≤ l.bytes.length := by
    rcases WordLane.bytes_length l with h | h | h | h <;> omega
  rw [State.hostWindowWrite_ready h (WordLane.bytes_length l) (WordLane.aligned_in_word hword l) (by omega),
    State.windowStore_lane s word l hword]

/-! ### NOTICE_ACKNOWLEDGE (R177) -/

theorem registerAt_noticeAcknowledge : registerAt 0x144 = .noticeAcknowledge := by decide

/-- Byte 0 of a word is the first of its bytes. -/
theorem wordOfBytes_cons_mod (b : Byte) (rest : List Byte) : (wordOfBytes (b :: rest)).toNat % 256 = b.toNat := by
  have hlow : (wordOfBytes (b :: rest)).setWidth 8 = b := by
    ext i hi
    simp [wordOfBytes]
  simpa using congrArg BitVec.toNat hlow

theorem laneValue_zero (data : List Byte) : laneValue 0 data = wordOfBytes data := by
  simp [laneValue]

/-- The port that a lane names is what byte 0 of the register's write holds, if the write reaches that byte (R59, R177). -/
theorem acknowledgedPort_eq (l : WordLane) :
    acknowledgedPort l =
      if laneMask l.offset l.bytes.length &&& 0xFF = 0 then none
      else some ((laneValue l.offset l.bytes).toNat % 256) := by
  cases l with
  | byte i v =>
    fin_cases i <;>
      simp [acknowledgedPort, WordLane.offset, WordLane.bytes, laneMask, wordOf, laneValue_zero, wordOfBytes_cons_mod]
  | half i v =>
    fin_cases i <;>
      simp [acknowledgedPort, WordLane.offset, WordLane.bytes, laneMask, wordOf, laneValue_zero, wordOfBytes_cons_mod]
  | word v =>
    have hlength : (wordBytes v).length = 4 := rfl
    simp [acknowledgedPort, WordLane.offset, WordLane.bytes, laneMask, wordOf, laneValue_zero, wordOfBytes_wordBytes, hlength]

/-- The write to the notice-acknowledge register that a lane makes (R61, R177). -/
def State.acknowledgeLane (s : State) (l : WordLane) : State :=
  s.writeAcknowledge (laneMask l.offset l.bytes.length) (laneValue l.offset l.bytes)

theorem State.acknowledgeLane_named {l : WordLane} {p : Port} (h : acknowledgedPort l = some p.val) (s : State) :
    s.acknowledgeLane l = s.acknowledge p := by
  rw [acknowledgedPort_eq, Option.ite_none_left_eq_some, Option.some.injEq] at h
  obtain ⟨hmask, hvalue⟩ := h
  rw [State.acknowledgeLane, State.writeAcknowledge, if_neg hmask, dif_pos (hvalue ▸ p.isLt)]
  congr 1
  exact Fin.ext hvalue

theorem State.acknowledgeLane_unnamed {l : WordLane} (h : ∀ p : Port, acknowledgedPort l ≠ some p.val) (s : State) :
    s.acknowledgeLane l = s := by
  rw [State.acknowledgeLane, State.writeAcknowledge]
  split
  next => rfl
  next hmask =>
    refine dif_neg fun hport => h ⟨_, hport⟩ ?_
    rw [acknowledgedPort_eq, if_neg hmask]

theorem exec_noticeAcknowledge_ready {s : State} {tag : HostTag} (h : HostReady s tag) (l : WordLane) :
    exec (.noticeAcknowledge tag l) s = .next ((s.acknowledgeLane l).answered tag .ok []) := by
  have hwrite := State.hostWindowWrite_lane h (word := 0x144) (by decide) (by decide) l
  rw [registerAt_noticeAcknowledge] at hwrite
  exact congrArg Host.Outcome.next hwrite

theorem State.acknowledge_none {s : State} {p : Port} (h : (s.port p).notice = none) : s.acknowledge p = s := by
  simp only [State.acknowledge, h]

theorem State.acknowledge_owed {s : State} {p : Port} (h : (s.port p).notice ≠ none) (howed : (s.port p).noticeAckOwed = true) :
    s.acknowledge p = s.setPort p { s.port p with notice := none } := by
  obtain ⟨code, hcode⟩ := Option.ne_none_iff_exists'.mp h
  simp only [State.acknowledge, hcode]
  exact if_pos howed

theorem State.acknowledge_owing {s : State} {p : Port} (h : (s.port p).notice ≠ none) (hunowed : (s.port p).noticeAckOwed = false)
    (hlinked : (s.port p).state.linked = true) :
    s.acknowledge p = s.setPort p (PortRecord.owing { s.port p with notice := none, noticeAckOwed := true } .noticeAck) := by
  obtain ⟨code, hcode⟩ := Option.ne_none_iff_exists'.mp h
  simp only [State.acknowledge, hcode]
  rw [if_neg (by simp [hunowed]), State.owe_linked (by simpa using hlinked)]
  simp [State.modifyPort_eq_setPort]

/-- Settles O20: the lane names a port or none, and the named port has one of three cases. -/
theorem noticeAcknowledgeOwesOneAck : Obligations.NoticeAcknowledgeOwesOneAck := by
  intro s tag l hready
  rw [exec_noticeAcknowledge_ready hready]
  refine ⟨fun hunnamed => ?_, fun p hnamed => ?_⟩
  · rw [State.acknowledgeLane_unnamed hunnamed]
  · rw [State.acknowledgeLane_named hnamed]
    refine ⟨fun hnone => ?_, fun hpending howed => ?_, fun hpending hunowed hlinked => ?_⟩
    · rw [State.acknowledge_none hnone]
    · rw [State.acknowledge_owed hpending howed]
    · rw [State.acknowledge_owing hpending hunowed hlinked]

/-! ### Retirement at once is a state without a walk (R12) -/

/-- How many claims of the slots a test picks. -/
def State.pickedIn (s : State) (picks : Claim → Bool) (slots : List SlotNo) : Nat :=
  slots.countP fun n => (s.claim n).any picks

/-- The claim table without the claims of the slots that a test picks. -/
def State.claimsLeft (s : State) (picks : Claim → Bool) (slots : List SlotNo) : Vector (Option Claim) 64 :=
  Vector.ofFn fun n => if n ∈ slots then (s.claim n).filter fun c => !picks c else s.claim n

/-- `State.freed` for some of the slots. -/
def State.freedIn (s : State) (p : Port) (picks : Claim → Bool) (slots : List SlotNo) : State :=
  if s.pickedIn picks slots = 0 then s
  else
    State.portBecomes { s with claims := s.claimsLeft picks slots } p
      (PortRecord.raising { s.port p with claimCount := (s.port p).claimCount - s.pickedIn picks slots } 0x040)

theorem State.retireNow_eq (s : State) (n : SlotNo) (p : Port) :
    s.retireNow n p = (s.setClaim n none).portBecomes p
      (PortRecord.raising { s.port p with claimCount := (s.port p).claimCount - 1 } 0x040) := by
  simp [State.retireNow, State.countOut, State.raisePort_eq, State.modifyPort_eq_setPort, PortRecord.raising, PortFlag.mark]

theorem State.freedIn_allSlots (s : State) (p : Port) (picks : Claim → Bool) : s.freedIn p picks allSlots = s.freed p picks := by
  have hclaims : s.claimsLeft picks allSlots = s.claims.map fun (c : Option Claim) => c.filter fun d => !picks d := by
    ext1 i hi
    simp [State.claimsLeft, mem_allSlots, State.claim]
  rw [State.freedIn, hclaims]
  rfl

theorem State.claim_portBecomes (s : State) (p : Port) (x : PortRecord) (n : SlotNo) : (s.portBecomes p x).claim n = s.claim n :=
  rfl

/-- A slot that is not among the slots does not count. -/
theorem State.pickedIn_retireNow (s : State) {n : SlotNo} (p : Port) (picks : Claim → Bool) {slots : List SlotNo} (hn : n ∉ slots) :
    (s.retireNow n p).pickedIn picks slots = s.pickedIn picks slots := by
  refine List.countP_congr fun m hm => ?_
  have hne : m ≠ n := fun h => hn (h ▸ hm)
  simp [State.retireNow_eq, State.claim_portBecomes, hne]

theorem State.claimsLeft_retireNow (s : State) {n : SlotNo} (p : Port) {picks : Claim → Bool} (slots : List SlotNo) {c : Claim}
    (hc : s.claim n = some c) (hpick : picks c = true) :
    (s.retireNow n p).claimsLeft picks slots = s.claimsLeft picks (n :: slots) := by
  refine congrArg Vector.ofFn (funext fun m => ?_)
  rw [State.retireNow_eq, State.claim_portBecomes]
  by_cases hm : m = n
  · subst hm; simp [hc, hpick, Option.filter_some]
  · simp [hm]

theorem State.claimsLeft_of_pickedIn_zero {s : State} {picks : Claim → Bool} {slots : List SlotNo}
    (h : s.pickedIn picks slots = 0) : s.claimsLeft picks slots = s.claims := by
  ext1 i hi
  simp only [State.claimsLeft, Vector.getElem_ofFn]
  split
  next hmem =>
    have hnot := List.countP_eq_zero.mp h _ hmem
    change (s.claim ⟨i, hi⟩).filter _ = s.claim ⟨i, hi⟩
    cases hc : s.claim ⟨i, hi⟩ with
    | none => rfl
    | some c => simpa [hc, Option.filter_some] using hnot
  next => rfl

/-- ATTN does not read the claim table. -/
theorem State.setClaims_portBecomes (s : State) (p : Port) (x : PortRecord) (v : Vector (Option Claim) 64) :
    { s.portBecomes p x with claims := v } = State.portBecomes { s with claims := v } p x :=
  rfl

/-- Retiring one claim at once and then those of further slots retires them together. -/
theorem State.freedIn_retireNow {s : State} {n : SlotNo} {c : Claim} (hc : s.claim n = some c) (p : Port) {picks : Claim → Bool}
    (hpick : picks c = true) {slots : List SlotNo} (hn : n ∉ slots) :
    (s.retireNow n p).freedIn p picks slots = s.freedIn p picks (n :: slots) := by
  have hcount : s.pickedIn picks (n :: slots) = s.pickedIn picks slots + 1 := by
    simp [State.pickedIn, hc, hpick]
  have hrest := State.pickedIn_retireNow s p picks hn
  rw [State.freedIn, State.freedIn, ← s.claimsLeft_retireNow p slots hc hpick, hrest, hcount, if_neg (Nat.succ_ne_zero _)]
  split
  next hzero =>
    rw [State.claimsLeft_of_pickedIn_zero (hrest.trans hzero), hzero, State.retireNow_eq]
    rfl
  next =>
    generalize (s.retireNow n p).claimsLeft picks slots = left
    rw [State.retireNow_eq, State.setClaims_portBecomes, State.portBecomes_portBecomes, State.port_portBecomes_self]
    simp only [PortRecord.raising, BitVec.or_assoc, BitVec.or_self, Nat.sub_sub, Nat.add_comm 1]
    rfl

theorem State.freedIn_cons_of_not_picked {s : State} {n : SlotNo} (p : Port) {picks : Claim → Bool}
    (hnot : (s.claim n).any picks = false) (slots : List SlotNo) : s.freedIn p picks (n :: slots) = s.freedIn p picks slots := by
  have hcount : s.pickedIn picks (n :: slots) = s.pickedIn picks slots := by
    simp [State.pickedIn, hnot]
  have hleft : s.claimsLeft picks (n :: slots) = s.claimsLeft picks slots := by
    refine congrArg Vector.ofFn (funext fun m => ?_)
    by_cases hm : m = n
    · subst hm
      cases hc : s.claim m <;> simp_all
    · simp [hm]
  rw [State.freedIn, hcount, hleft, State.freedIn]

/-- The walk of an immediate retirement, one slot at a time. -/
theorem State.retireWhere_eq_foldl (s : State) (p : Port) (picks : Claim → Bool) :
    s.retireWhere p picks = allSlots.foldl (fun t n => if (t.claim n).any picks then t.retireNow n p else t) s := by
  rw [State.retireWhere]
  congr 1
  funext t n
  cases t.claim n <;> rfl

theorem foldl_retireNow_eq_freedIn (p : Port) (picks : Claim → Bool) {slots : List SlotNo} (hslots : slots.Nodup) (s : State) :
    slots.foldl (fun t n => if (t.claim n).any picks then t.retireNow n p else t) s = s.freedIn p picks slots := by
  induction slots generalizing s with
  | nil => rfl
  | cons n slots ih =>
    obtain ⟨hn, hslots⟩ := List.nodup_cons.mp hslots
    rw [List.foldl_cons, ih hslots]
    split
    next hpicked =>
      obtain ⟨c, hc, hpick⟩ := (Option.any_eq_true _ _).mp hpicked
      exact State.freedIn_retireNow hc p hpick hn
    next hnot => exact (State.freedIn_cons_of_not_picked p (Bool.eq_false_iff.mpr hnot) slots).symm

/-- An immediate retirement ends in the state that `State.freed` writes (R12, R141, R143). -/
theorem State.retireWhere_eq_freed (s : State) (p : Port) (picks : Claim → Bool) : s.retireWhere p picks = s.freed p picks := by
  rw [State.retireWhere_eq_foldl, foldl_retireNow_eq_freedIn p picks nodup_allSlots, State.freedIn_allSlots]

/-! ### The orphans of a port: freed together, or resumed together (R140, R142, R143) -/

theorem State.mem_orphans (s : State) (p : Port) (n : SlotNo) :
    n ∈ s.orphans p ↔ ∃ c, s.claim n = some c ∧ c.isOrphanOf p = true := by
  rw [State.orphans, List.mem_filter]
  cases s.claim n <;> simp [mem_allSlots]

/-- The state without the claims that a test picks. -/
def State.without (s : State) (picks : Claim → Bool) : State :=
  { s with claims := s.claims.map fun (c : Option Claim) => c.filter fun d => !picks d }

theorem State.without_setPort (s : State) (p : Port) (x : PortRecord) (picks : Claim → Bool) :
    (s.setPort p x).without picks = (s.without picks).setPort p x :=
  rfl

theorem State.freed_of_picked {s : State} {picks : Claim → Bool} (h : s.pickedIn picks allSlots ≠ 0) (p : Port) :
    s.freed p picks = (s.without picks).portBecomes p
      (PortRecord.raising { s.port p with claimCount := (s.port p).claimCount - s.pickedIn picks allSlots } 0x040) :=
  if_neg h

theorem State.pickedIn_orphans_ne_zero {s : State} {p : Port} (h : s.orphans p ≠ []) :
    s.pickedIn (fun c => c.isOrphanOf p) allSlots ≠ 0 := by
  obtain ⟨n, hn⟩ := List.exists_mem_of_ne_nil _ h
  obtain ⟨c, hc, horphan⟩ := (s.mem_orphans p n).mp hn
  exact (List.countP_pos_iff.mpr ⟨n, mem_allSlots n, by simp [hc, horphan]⟩).ne'

/-- The claim after the orphans of the port have become LIVE. -/
def Claim.revived (c : Claim) (p : Port) : Claim :=
  if c.isOrphanOf p then { c with phase := .live } else c

/-- The state in which the orphans of the port are LIVE. -/
def State.revived (s : State) (p : Port) : State :=
  { s with claims := s.claims.map fun (c : Option Claim) => c.map fun d => d.revived p }

theorem State.claim_revived (s : State) (p : Port) (n : SlotNo) :
    (s.revived p).claim n = (s.claim n).map fun c => c.revived p := by
  simp [State.revived, State.claim]

theorem State.revived_setPort (s : State) (p q : Port) (x : PortRecord) :
    (s.setPort q x).revived p = (s.revived p).setPort q x :=
  rfl

theorem State.resumeClaims_orphans (s : State) (p : Port) : s.resumeClaims (s.orphans p) = s.revived p := by
  have hnodup : (s.orphans p).Nodup := nodup_allSlots.filter _
  have hclaim (n : SlotNo) : (s.resumeClaims (s.orphans p)).claim n = (s.revived p).claim n := by
    simp only [State.resumeClaims_claim s hnodup, State.claim_revived, State.mem_orphans]
    cases hc : s.claim n with
    | none => simp
    | some c => by_cases horphan : c.isOrphanOf p = true <;> simp [Claim.revived, horphan]
  rw [State.resumeClaims_frame, State.claims_ext hclaim]
  rfl

/-- Every orphan carries the identity (R142). -/
theorem State.ownedBy_orphans_iff (s : State) (p : Port) (y : Word) :
    s.ownedBy (s.orphans p) y = true ↔ ∀ n ∈ s.orphans p, ∀ c, s.claim n = some c → c.owner.identity = y := by
  rw [State.ownedBy, List.all_eq_true]
  refine forall₂_congr fun n hn => ?_
  obtain ⟨c, hc, horphan⟩ := (s.mem_orphans p n).mp hn
  cases howner : c.owner with
  | board q h i a => simp [hc, howner, Owner.identity]
  | _ => simp [Claim.isOrphanOf, Claim.isBoardOf, howner] at horphan

/-- The orphans of the port answer to the identity of a HELLO (R142). -/
def State.orphansMatch (s : State) (p : Port) (y : Word) : Prop :=
  y ≠ 0 ∧ ∀ n ∈ s.orphans p, ∀ c, s.claim n = some c → c.owner.identity = y

theorem State.orphansMatch_iff (s : State) (p : Port) (y : Word) :
    s.orphansMatch p y ↔ y ≠ 0 ∧ s.ownedBy (s.orphans p) y = true := by
  rw [State.ownedBy_orphans_iff, State.orphansMatch]

theorem State.resumable_of_match {s : State} {p : Port} {y : Word} (h : s.orphansMatch p y) : s.resumable p y = s.orphans p :=
  if_pos (s.orphansMatch_iff p y |>.mp h)

theorem State.resumable_of_not_match {s : State} {p : Port} {y : Word} (h : ¬ s.orphansMatch p y) : s.resumable p y = [] :=
  if_neg (s.orphansMatch_iff p y |>.not.mp h)

theorem State.resumable_of_no_orphan {s : State} {p : Port} (h : s.orphans p = []) (y : Word) : s.resumable p y = [] := by
  simp [State.resumable, h]

theorem PortRecord.raising_raising (x : PortRecord) (j k : BitVec 12) : (x.raising j).raising k = x.raising (j ||| k) := by
  simp [PortRecord.raising, BitVec.or_assoc]

theorem State.resolveOrphans_none {s : State} {p : Port} (h : s.orphans p = []) (y : Word) :
    s.resolveOrphans p y = s.setPort p { s.port p with holdTimer := none } := by
  rw [State.resolveOrphans, if_pos (by simp [h])]
  rfl

theorem State.resolveOrphans_match {s : State} {p : Port} {y : Word} (h : s.orphans p ≠ []) (hmatch : s.orphansMatch p y) :
    s.resolveOrphans p y = (s.revived p).portBecomes p (PortRecord.raising { s.port p with holdTimer := none } 0x010) := by
  rw [State.resolveOrphans, if_neg (by simpa using h), if_pos (s.orphansMatch_iff p y |>.mp hmatch), State.resumeClaims_orphans,
    State.stopHold, State.modifyPort_eq_setPort, State.raisePort_eq, State.portBecomes_setPort, State.port_setPort_self]
  rfl

theorem State.resolveOrphans_not_match {s : State} {p : Port} {y : Word} (h : s.orphans p ≠ []) (hmatch : ¬ s.orphansMatch p y) :
    s.resolveOrphans p y = (s.without fun c => c.isOrphanOf p).portBecomes p
      (PortRecord.raising
        { s.port p with
          holdTimer := none
          claimCount := (s.port p).claimCount - s.pickedIn (fun c => c.isOrphanOf p) allSlots } 0x060) := by
  rw [State.resolveOrphans, if_neg (by simpa using h), if_neg (s.orphansMatch_iff p y |>.not.mp hmatch),
    State.retireWhere_eq_freed, State.freed_of_picked (State.pickedIn_orphans_ne_zero h), State.raisePort_eq,
    State.portBecomes_portBecomes, State.stopHold, State.modifyPort_eq_setPort, State.setPort_portBecomes _ _ _ _ (by simp)]
  simp only [State.port_portBecomes_self, PortRecord.raising, BitVec.or_assoc]
  rfl

/-! ### GRANT replay (R34, R144) -/

/-- The GRANT owed for the claim of a handle among the slots. -/
def State.grantOf (s : State) (p : Port) (slots : List SlotNo) (h : Handle) : Option OwedMessage :=
  (slots.find? fun n => (s.claim n).any fun c => c.carries p h).bind fun n =>
    (s.claim n).map fun c => OwedMessage.grant h n c.space c.base c.size

theorem State.grantOf_setPort (s : State) (p q : Port) (x : PortRecord) (slots : List SlotNo) :
    (s.setPort q x).grantOf p slots = s.grantOf p slots :=
  rfl

theorem State.grantOf_portBecomes (s : State) (p q : Port) (x : PortRecord) (slots : List SlotNo) :
    (s.portBecomes q x).grantOf p slots = s.grantOf p slots :=
  rfl

theorem State.grantOf_nil (s : State) (p : Port) : s.grantOf p [] = fun _ => none :=
  rfl

/-- What a GRANT says of a claim does not depend on the claim's phase. -/
theorem State.grantOf_revived (s : State) (p : Port) (slots : List SlotNo) :
    (s.revived p).grantOf p slots = s.grantOf p slots := by
  have hcarries (c : Claim) (h : Handle) : (c.revived p).carries p h = c.carries p h := by
    unfold Claim.revived
    split <;> rfl
  have hextent (c : Claim) : (c.revived p).space = c.space ∧ (c.revived p).base = c.base ∧ (c.revived p).size = c.size := by
    unfold Claim.revived
    split <;> exact ⟨rfl, rfl, rfl⟩
  funext h
  simp [State.grantOf, State.claim_revived, Option.any_map, Function.comp_def, hcarries, hextent]

/-- The record with further messages at the end of its owed list. -/
def PortRecord.owingAll (x : PortRecord) (l : List OwedMessage) : PortRecord :=
  { x with owed := x.owed ++ l }

@[simp] theorem PortRecord.state_owingAll (x : PortRecord) (l : List OwedMessage) : (x.owingAll l).state = x.state :=
  rfl

theorem PortRecord.owingAll_nil (x : PortRecord) : x.owingAll [] = x := by
  simp [PortRecord.owingAll]

theorem PortRecord.owingAll_owingAll (x : PortRecord) (l k : List OwedMessage) :
    (x.owingAll l).owingAll k = x.owingAll (l ++ k) := by
  simp [PortRecord.owingAll]

theorem State.owe_run {s : State} {p : Port} (h : (s.port p).state = .run) (m : OwedMessage) :
    s.owe p m = s.setPort p ((s.port p).owingAll [m]) := by
  rw [State.owe_linked (by simp [h, PortState.linked]), PortRecord.owing_awake (by simp [h]) (by simp [h]), PortRecord.owingAll]

theorem State.replayGrant_eq (s : State) (p : Port) (slots : List SlotNo) (k : Handle) :
    State.replayGrant p slots s k =
      (slots.find? fun n => (s.claim n).any fun c => c.carries p k).elim s fun n =>
        (s.claim n).elim s fun c => s.owe p (.grant k n c.space c.base c.size) := by
  have hcarries : (fun n => (s.claim n).any fun c => c.carries p k) = fun n =>
      match s.claim n with
      | some c => c.carries p k
      | none => false := by
    funext n
    cases s.claim n <;> rfl
  rw [hcarries]
  unfold State.replayGrant
  split
  next hnone => exact (congrArg (Option.elim · s _) hnone).symm
  next n hsome =>
    refine Eq.trans ?_ (congrArg (Option.elim · s _) hsome).symm
    rw [Option.elim_some]
    cases s.claim n <;> rfl

theorem State.replayGrant_run {s : State} {p : Port} (h : (s.port p).state = .run) (slots : List SlotNo) (k : Handle) :
    State.replayGrant p slots s k = s.setPort p ((s.port p).owingAll (s.grantOf p slots k).toList) := by
  rw [State.replayGrant_eq, State.grantOf]
  cases slots.find? fun n => (s.claim n).any fun c => c.carries p k with
  | none => simp [PortRecord.owingAll_nil]
  | some n =>
    rw [Option.elim_some, Option.bind_some]
    cases s.claim n with
    | none => simp [PortRecord.owingAll_nil]
    | some c => simp [State.owe_run h]

/-- In RUN the replay adds the GRANTs of the handles to the owed list, in the order of the handles. -/
theorem foldl_replayGrant_run (p : Port) (slots : List SlotNo) (handles : List Handle) {s : State}
    (h : (s.port p).state = .run) :
    handles.foldl (State.replayGrant p slots) s =
      s.setPort p ((s.port p).owingAll (handles.filterMap (s.grantOf p slots))) := by
  induction handles generalizing s with
  | nil => simp [PortRecord.owingAll_nil]
  | cons k handles ih =>
    rw [List.foldl_cons, State.replayGrant_run h, ih (by simpa using h), State.grantOf_setPort, State.setPort_setPort,
      State.port_setPort_self, PortRecord.owingAll_owingAll, List.filterMap_cons]
    cases s.grantOf p slots k <;> rfl

/-! ### A good HELLO (R99) -/

/-- The record after what a good HELLO says of the board is taken (R99). -/
def PortRecord.greeted (x : PortRecord) (seq : Byte) (m : HelloMsg) : PortRecord :=
  { x with
    greetTimer := none, identity := some m.identity, credit := m.credit.toNat, dozeCapable := m.dozeCapable, recvSeq := seq + 1 }

/-- The record of a port that enters RUN with WELCOME sent (R99). -/
def PortRecord.welcomed (x : PortRecord) (p : Port) (resumed : Nat) : PortRecord :=
  { x with
    state := .run, greetFailures := 0, realignAttempts := 0
    sent := x.sent ++ [⟨x.sendSeq, .welcome p x.quota resumed⟩], sendSeq := x.sendSeq + 1 }

/-! The flags that the resolution of the orphans raised stand through the opening. -/

theorem PortRecord.welcomed_raising (x : PortRecord) (marks : BitVec 12) (p : Port) (resumed : Nat) :
    (x.raising marks).welcomed p resumed = (x.welcomed p resumed).raising marks :=
  rfl

theorem PortRecord.owingAll_raising (x : PortRecord) (marks : BitVec 12) (l : List OwedMessage) :
    (x.raising marks).owingAll l = (x.owingAll l).raising marks :=
  rfl

theorem State.timed_raising (s : State) (x : PortRecord) (marks : BitVec 12) :
    s.timed (x.raising marks) = (s.timed x).raising marks :=
  rfl

/-- What a good HELLO does once the orphans of the port are resolved. -/
def State.sessionOpened (s : State) (p : Port) (resumed : List SlotNo) : State :=
  let s1 := s.transmit p (.welcome p (s.port p).quota resumed.length)
  let s2 := (s1.modifyPort p fun x => { x with greetFailures := 0, realignAttempts := 0 }).enterRun p
  (allHandles.foldl (State.replayGrant p resumed) s2).raisePort p .linkUp

theorem State.acceptHello_eq (s : State) (p : Port) (seq : Byte) (m : HelloMsg) :
    s.acceptHello p seq m =
      ((s.setPort p ((s.port p).greeted seq m)).resolveOrphans p m.identity).sessionOpened p
        ((s.setPort p ((s.port p).greeted seq m)).resumable p m.identity) :=
  rfl

theorem State.sessionOpened_eq (s : State) (p : Port) (resumed : List SlotNo) :
    s.sessionOpened p resumed = s.portBecomes p (PortRecord.raising
      (s.timed (((s.port p).welcomed p resumed.length).owingAll (allHandles.filterMap (s.grantOf p resumed)))) 0x001) := by
  simp only [State.sessionOpened, State.enterRun, State.transmit_eq, State.modifyPort_eq_setPort, State.restartIdle_eq,
    State.setPort_setPort, State.port_setPort_self]
  rw [foldl_replayGrant_run p resumed allHandles (by simp), State.raisePort_eq]
  simp only [State.grantOf_setPort, State.setPort_setPort, State.port_setPort_self, State.portBecomes_setPort]
  rfl

theorem exec_hello_good {s : State} {p : Port} {m : HelloMsg} (hgreet : (s.port p).state = .greet) (hgood : m.good = true)
    (seq : Byte) : exec (.hello p seq m) s = .next (s.acceptHello p seq m) := by
  change Host.Outcome.next (s.receive p seq fun t => t.takeHello p seq m) = _
  rw [State.receive_uncompared (.inl hgreet)]
  simp only [State.takeHello, hgreet, hgood, if_true]

/-- The record of a port whose good HELLO opens a session that resumes some number of claims (R99, R142). -/
def PortRecord.opened (x : PortRecord) (p : Port) (seq : Byte) (m : HelloMsg) (resumed : Nat) : PortRecord :=
  PortRecord.welcomed { x.greeted seq m with holdTimer := none } p resumed

theorem State.acceptHello_no_orphan {s : State} {p : Port} (h : s.orphans p = []) (seq : Byte) (m : HelloMsg) :
    s.acceptHello p seq m = s.portBecomes p ((s.timed ((s.port p).opened p seq m 0)).raising 0x001) := by
  have hs1 : (s.setPort p ((s.port p).greeted seq m)).orphans p = [] := h
  rw [State.acceptHello_eq, State.resumable_of_no_orphan hs1, State.resolveOrphans_none hs1, State.sessionOpened_eq]
  simp only [State.grantOf_nil, List.filterMap_none, PortRecord.owingAll_nil, State.setPort_setPort, State.port_setPort_self,
    State.portBecomes_setPort]
  rfl

theorem State.acceptHello_match {s : State} {p : Port} {m : HelloMsg} (h : s.orphans p ≠ []) (hmatch : s.orphansMatch p m.identity)
    (seq : Byte) :
    s.acceptHello p seq m = (s.revived p).portBecomes p (PortRecord.raising
      (s.timed (((s.port p).opened p seq m (s.orphans p).length).owingAll
        (allHandles.filterMap (s.grantOf p (s.orphans p))))) 0x011) := by
  have hs1 : (s.setPort p ((s.port p).greeted seq m)).orphans p ≠ [] := h
  have hm1 : (s.setPort p ((s.port p).greeted seq m)).orphansMatch p m.identity := hmatch
  rw [State.acceptHello_eq, State.resumable_of_match hm1, State.resolveOrphans_match hs1 hm1, State.sessionOpened_eq]
  simp only [State.grantOf_portBecomes, State.grantOf_revived, State.portBecomes_portBecomes, State.port_portBecomes_self,
    State.port_setPort_self, State.revived_setPort, State.portBecomes_setPort, PortRecord.welcomed_raising,
    PortRecord.owingAll_raising, State.timed_raising, PortRecord.raising_raising]
  rfl

theorem State.acceptHello_not_match {s : State} {p : Port} {m : HelloMsg} (h : s.orphans p ≠ [])
    (hmatch : ¬ s.orphansMatch p m.identity) (seq : Byte) :
    s.acceptHello p seq m = (s.freed p fun c => c.isOrphanOf p).portBecomes p (PortRecord.raising
      (s.timed
        { (s.port p).opened p seq m 0 with claimCount := ((s.freed p fun c => c.isOrphanOf p).port p).claimCount }) 0x061) := by
  have hs1 : (s.setPort p ((s.port p).greeted seq m)).orphans p ≠ [] := h
  have hm1 : ¬ (s.setPort p ((s.port p).greeted seq m)).orphansMatch p m.identity := hmatch
  rw [State.acceptHello_eq, State.resumable_of_not_match hm1, State.resolveOrphans_not_match hs1 hm1, State.sessionOpened_eq,
    State.freed_of_picked (State.pickedIn_orphans_ne_zero h)]
  simp only [State.portBecomes_portBecomes, State.port_portBecomes_self, State.port_setPort_self, State.without_setPort,
    State.portBecomes_setPort, State.grantOf_nil, List.filterMap_none, PortRecord.owingAll_nil, PortRecord.welcomed_raising,
    State.timed_raising, PortRecord.raising_raising]
  rfl

/-- Settles O36: no orphan, orphans that match, and orphans that do not. -/
theorem goodHelloOpensSession : Obligations.GoodHelloOpensSession := by
  intro s p seq m x hgreet hrev hlow hhigh opened orphans same grants live dropped
  have hgood : m.good = true := by
    simp [HelloMsg.good, hrev, hlow, hhigh]
  rw [exec_hello_good hgreet hgood]
  refine ⟨fun hnone => ?_, fun hsome hsame => ?_, fun hsome hsame => ?_⟩
  · rw [State.acceptHello_no_orphan hnone]
    rfl
  · rw [State.acceptHello_match hsome hsame]
    rfl
  · rw [State.acceptHello_not_match hsome hsame]
    rfl

end Sys2Proof.Machine
end

section
/-! PROOFS. Answers: no step makes two entries owe an answer under one tag, and none overfills the completion list (R48, R50, R66).
Of the state only the tag that each place owes an answer under and the length of the completion list matter; most operations leave
both, the end of an entry gives up one for the other, and the router adds to them where R46 and R50 let it. -/

namespace Sys2Proof.Machine

open Sys2Proof

/-! ### What the host is still to be answered -/

/-- The tag that each place owes an answer under, and how many completions stand in the list. -/
@[ext] structure Answers where
  owing : EntryNo → Option HostTag
  listed : Nat

def State.answers (s : State) : Answers where
  owing k := (s.entry k).bind Entry.owes
  listed := s.completions.length

/-- How many places owe an answer. -/
def Answers.owed (a : Answers) : Nat :=
  allEntries.countP fun k => (a.owing k).isSome

/-- No two places owe an answer under one tag (R66). -/
def Answers.Distinct (a : Answers) : Prop :=
  ∀ j k, j ≠ k → a.owing j = a.owing k → a.owing j = none

/-- The list has room for every answer owed (R48). -/
def Answers.InRoom (a : Answers) : Prop :=
  a.listed + a.owed ≤ 96

theorem tagLaw_iff (s : State) : TagLaw s ↔ s.answers.Distinct := by
  refine forall₃_congr fun j k _ => ?_
  cases hj : s.entry j <;> cases hk : s.entry k <;> simp [State.answers, hj, hk]

theorem State.owed_answers (s : State) : s.answers.owed = s.owingEntries := by
  refine List.countP_congr fun k _ => ?_
  cases hk : s.entry k <;> simp [State.answers, hk]

theorem completionRoom_iff (s : State) : CompletionRoom s ↔ s.answers.InRoom := by
  rw [CompletionRoom, ← State.owed_answers]
  rfl

theorem Answers.owed_le (a : Answers) : a.owed ≤ 32 :=
  List.countP_le_length

/-- A list of at most 64 leaves room for what the 32 places can owe. -/
theorem Answers.inRoom_of_listed {a : Answers} (h : a.listed ≤ 64) : a.InRoom := by
  have howed := a.owed_le
  unfold Answers.InRoom
  omega

/-! ### One place, and one more completion -/

/-- The answers where a place comes to owe `o`. -/
def Answers.put (a : Answers) (n : EntryNo) (o : Option HostTag) : Answers :=
  { a with owing := Function.update a.owing n o }

/-- The answers after one more completion. -/
def Answers.listing (a : Answers) : Answers :=
  { a with listed := a.listed + 1 }

@[simp] theorem Answers.listed_put (a : Answers) (n : EntryNo) (o : Option HostTag) : (a.put n o).listed = a.listed := rfl
@[simp] theorem Answers.listed_listing (a : Answers) : a.listing.listed = a.listed + 1 := rfl
@[simp] theorem Answers.owing_listing (a : Answers) : a.listing.owing = a.owing := rfl
@[simp] theorem Answers.owed_listing (a : Answers) : a.listing.owed = a.owed := rfl

theorem Answers.owing_put (a : Answers) (n k : EntryNo) (o : Option HostTag) :
    (a.put n o).owing k = if k = n then o else a.owing k :=
  Function.update_apply _ _ _ _

@[simp] theorem Answers.put_self (a : Answers) (n : EntryNo) : a.put n (a.owing n) = a := by
  simp [Answers.put]

theorem countP_update_isSome (f : EntryNo → Option HostTag) (n : EntryNo) (o : Option HostTag) {l : List EntryNo} (hl : l.Nodup)
    (hn : n ∈ l) :
    (l.countP fun k => (Function.update f n o k).isSome) + (f n).isSome.toNat =
      (l.countP fun k => (f k).isSome) + o.isSome.toNat := by
  induction l with
  | nil => simp at hn
  | cons m l ih =>
    obtain ⟨hm, hl⟩ := List.nodup_cons.mp hl
    by_cases h : m = n
    · subst h
      have hrest : (l.countP fun k => (Function.update f m o k).isSome) = l.countP fun k => (f k).isSome := by
        refine List.countP_congr fun k hk => ?_
        rw [Function.update_of_ne (ne_of_mem_of_not_mem hk hm)]
      simp only [List.countP_cons, hrest, Function.update_self]
      cases f m <;> cases o <;> simp
    · have := ih hl ((List.mem_cons.mp hn).resolve_left (Ne.symm h))
      simp only [List.countP_cons, Function.update_of_ne h]
      omega

theorem Answers.owed_put (a : Answers) (n : EntryNo) (o : Option HostTag) :
    (a.put n o).owed + (a.owing n).isSome.toNat = a.owed + o.isSome.toNat :=
  countP_update_isSome a.owing n o (List.nodup_finRange 32) (List.mem_finRange n)

/-! ### Owing no more -/

/-- From `a` to `b` a place only gives up its answer, and what is listed and owed together does not grow. -/
structure OwesNoMore (a b : Answers) : Prop where
  owing : ∀ k, b.owing k = none ∨ b.owing k = a.owing k
  total : b.listed + b.owed ≤ a.listed + a.owed

@[simp] theorem OwesNoMore.refl (a : Answers) : OwesNoMore a a :=
  ⟨fun _ => .inr rfl, le_rfl⟩

theorem OwesNoMore.trans {a b c : Answers} (hab : OwesNoMore a b) (hbc : OwesNoMore b c) : OwesNoMore a c := by
  refine ⟨fun k => ?_, hbc.total.trans hab.total⟩
  rcases hbc.owing k with h | h
  · exact .inl h
  · rw [h]; exact hab.owing k

theorem OwesNoMore.distinct {a b : Answers} (h : OwesNoMore a b) (ha : a.Distinct) : b.Distinct := by
  intro j k hjk hsame
  rcases h.owing j with hj | hj
  · exact hj
  · rcases h.owing k with hk | hk
    · rw [hsame, hk]
    · rw [hj]
      exact ha j k hjk (by rw [← hj, ← hk, hsame])

theorem OwesNoMore.inRoom {a b : Answers} (h : OwesNoMore a b) (ha : a.InRoom) : b.InRoom :=
  h.total.trans ha

theorem owesNoMore_put_none (a : Answers) (n : EntryNo) : OwesNoMore a (a.put n none) := by
  refine ⟨fun k => ?_, ?_⟩
  · rw [Answers.owing_put]
    split
    · exact .inl rfl
    · exact .inr rfl
  · have := a.owed_put n none
    simp only [Answers.listed_put, Option.isSome_none, Bool.toNat_false] at this ⊢
    omega

/-- A completion for an answer that is owed no longer (R79). -/
theorem owesNoMore_listing_put_none {a : Answers} {n : EntryNo} (h : (a.owing n).isSome = true) :
    OwesNoMore a (a.listing.put n none) := by
  refine ⟨(owesNoMore_put_none a n).owing, ?_⟩
  have := a.listing.owed_put n none
  simp only [Answers.listed_put, Answers.listed_listing, Answers.owing_listing, Answers.owed_listing, h, Option.isSome_none,
    Bool.toNat_true, Bool.toNat_false] at this ⊢
  omega

/-- Where nothing is owed and nothing listed. -/
theorem owesNoMore_nothing {a b : Answers} (howing : ∀ k, b.owing k = none) (hlisted : b.listed = 0) : OwesNoMore a b := by
  refine ⟨fun k => .inl (howing k), ?_⟩
  have howed : b.owed = 0 := by simp [Answers.owed, howing]
  omega

theorem owesNoMore_foldl {α : Type} {f : State → α → State} {a : Answers}
    (hf : ∀ s x, OwesNoMore a s.answers → OwesNoMore a (f s x).answers) (l : List α) {s : State}
    (h : OwesNoMore a s.answers) : OwesNoMore a (l.foldl f s).answers := by
  induction l generalizing s with
  | nil => exact h
  | cons x l ih => exact ih (hf s x h)

/-! ### Operations that touch no answer -/

theorem answers_congr {s t : State} (he : t.entries = s.entries) (hc : t.completions = s.completions) : t.answers = s.answers := by
  simp only [State.answers, State.entry, he, hc]

@[simp] theorem State.answers_setPort (s : State) (p : Port) (x : PortRecord) : (s.setPort p x).answers = s.answers :=
  answers_congr rfl rfl
@[simp] theorem State.answers_modifyPort (s : State) (p : Port) (f : PortRecord → PortRecord) :
    (s.modifyPort p f).answers = s.answers := answers_congr rfl rfl
@[simp] theorem State.answers_setClaim (s : State) (n : SlotNo) (c : Option Claim) : (s.setClaim n c).answers = s.answers :=
  answers_congr rfl rfl
@[simp] theorem State.answers_driveAttn (s : State) : s.driveAttn.answers = s.answers := answers_congr rfl rfl
@[simp] theorem State.answers_raiseGlobal (s : State) (f : GlobalFlag) : (s.raiseGlobal f).answers = s.answers :=
  answers_congr rfl rfl
@[simp] theorem State.answers_raisePort (s : State) (p : Port) (f : PortFlag) : (s.raisePort p f).answers = s.answers :=
  answers_congr rfl rfl
@[simp] theorem State.answers_protocolError (s : State) (p : Port) : (s.protocolError p).answers = s.answers :=
  answers_congr rfl rfl
@[simp] theorem State.answers_restartIdle (s : State) (p : Port) : (s.restartIdle p).answers = s.answers := answers_congr rfl rfl
@[simp] theorem State.answers_transmit (s : State) (p : Port) (m : OutMessage) : (s.transmit p m).answers = s.answers :=
  answers_congr rfl rfl
@[simp] theorem State.answers_sendAlign (s : State) (p : Port) : (s.sendAlign p).answers = s.answers := answers_congr rfl rfl
@[simp] theorem State.answers_enterRun (s : State) (p : Port) : (s.enterRun p).answers = s.answers := answers_congr rfl rfl
@[simp] theorem State.answers_enterGreet (s : State) (p : Port) : (s.enterGreet p).answers = s.answers := answers_congr rfl rfl
@[simp] theorem State.answers_freeTags (s : State) (p : Port) : (s.freeTags p).answers = s.answers := answers_congr rfl rfl
@[simp] theorem State.answers_dropHead (s : State) (p : Port) : (s.dropHead p).answers = s.answers := answers_congr rfl rfl
@[simp] theorem State.answers_stopHold (s : State) (p : Port) : (s.stopHold p).answers = s.answers := answers_congr rfl rfl
@[simp] theorem State.answers_countOut (s : State) (p : Port) : (s.countOut p).answers = s.answers := answers_congr rfl rfl
@[simp] theorem State.answers_retireNow (s : State) (n : SlotNo) (p : Port) : (s.retireNow n p).answers = s.answers :=
  answers_congr rfl rfl
@[simp] theorem State.answers_endHandshake (s : State) (p : Port) : (s.endHandshake p).answers = s.answers := answers_congr rfl rfl
@[simp] theorem State.answers_enterPower (s : State) (p : Port) (st : PortState) : (s.enterPower p st).answers = s.answers :=
  answers_congr rfl rfl
@[simp] theorem State.answers_takeLateComplete (s : State) (p : Port) (m : CompleteMsg) :
    (s.takeLateComplete p m).answers = s.answers := answers_congr rfl rfl
@[simp] theorem State.answers_latch (s : State) : s.latch.answers = s.answers := answers_congr rfl rfl
@[simp] theorem State.answers_finishCommand (s : State) (r : CommandResult) (w0 w1 w2 w3 : Nat) :
    (s.finishCommand r w0 w1 w2 w3).answers = s.answers := answers_congr rfl rfl
@[simp] theorem State.answers_refuseCommand (s : State) (r : Reason) : (s.refuseCommand r).answers = s.answers :=
  answers_congr rfl rfl

@[simp] theorem State.answers_setPool (s : State) (sp : Space) (q : Pool) : (s.setPool sp q).answers = s.answers := by
  cases sp <;> rfl

@[simp] theorem State.answers_wakeCause (s : State) (p : Port) : (s.wakeCause p).answers = s.answers := by
  rw [State.wakeCause_eq, State.answers_setPort]

@[simp] theorem State.answers_owe (s : State) (p : Port) (m : OwedMessage) : (s.owe p m).answers = s.answers := by
  unfold State.owe
  split <;> simp

@[simp] theorem State.answers_refuse (s : State) (p : Port) (h : Handle) (r : Reason) : (s.refuse p h r).answers = s.answers :=
  State.answers_owe ..

@[simp] theorem State.answers_reportEnd (s : State) (c : HostCommand) (n : Nat) (r : CommandResult) (w : Nat) :
    (s.reportEnd c n r w).answers = s.answers := by
  unfold State.reportEnd
  split <;> simp

@[simp] theorem State.answers_admitBoard (s : State) (n : SlotNo) (p : Port) (h : Handle) (y : Word) (a : Attributes) (sp : Space)
    (base size : Nat) : (s.admitBoard n p h y a sp base size).answers = s.answers := by
  simp [State.admitBoard]

@[simp] theorem State.answers_commitReshape (s : State) (n : SlotNo) (c : Claim) (base size : Nat) :
    (s.commitReshape n c base size).answers = s.answers := by
  unfold State.commitReshape
  split <;> simp

@[simp] theorem State.answers_completeDrain (s : State) (n : SlotNo) (c : Claim) (cause : RetireCause) :
    (s.completeDrain n c cause).answers = s.answers := by
  unfold State.completeDrain
  cases c.owner <;> cases cause <;> simp

@[simp] theorem State.answers_settle (s : State) (n : SlotNo) : (s.settle n).answers = s.answers := by
  unfold State.settle
  split
  · rfl
  · split
    · split <;> simp
    · rfl

@[simp] theorem State.answers_decrement (s : State) (n : SlotNo) : (s.decrement n).answers = s.answers := by
  unfold State.decrement
  split <;> simp

@[simp] theorem State.answers_increment (s : State) (n : SlotNo) : (s.increment n).answers = s.answers := by
  unfold State.increment
  split <;> simp

theorem State.answers_freed (s : State) (p : Port) (picks : Claim → Bool) : (s.freed p picks).answers = s.answers := by
  simp only [State.freed]
  split
  · rfl
  · exact answers_congr rfl rfl

@[simp] theorem State.answers_retireWhere (s : State) (p : Port) (picks : Claim → Bool) :
    (s.retireWhere p picks).answers = s.answers := by
  rw [State.retireWhere_eq_freed, State.answers_freed]

@[simp] theorem State.answers_orphanClaims (s : State) (p : Port) : (s.orphanClaims p).answers = s.answers := by
  rw [State.orphanClaims_frame]
  exact answers_congr rfl rfl

@[simp] theorem State.answers_holdOrphans (s : State) (p : Port) : (s.holdOrphans p).answers = s.answers := by
  unfold State.holdOrphans
  split
  · rfl
  · split <;> simp

@[simp] theorem State.answers_endLinkCommands (s : State) (p : Port) : (s.endLinkCommands p).answers = s.answers := by
  simp [State.endLinkCommands]

@[simp] theorem State.answers_endPowerCommand (s : State) (p : Port) (x : PortRecord) :
    (s.endPowerCommand p x).answers = s.answers := by
  unfold State.endPowerCommand
  split
  · simp
  · split <;> simp

@[simp] theorem State.answers_greetFailure (s : State) (p : Port) : (s.greetFailure p).answers = s.answers := by
  simp only [State.greetFailure]
  split <;> simp

@[simp] theorem State.answers_queueClaimMessage (s : State) (p : Port) (m : ClaimMessage) :
    (s.queueClaimMessage p m).answers = s.answers := by
  unfold State.queueClaimMessage
  split <;> simp

@[simp] theorem State.answers_stopIdleTimers (s : State) : s.stopIdleTimers.answers = s.answers := by
  rw [State.stopIdleTimers_frame]
  exact answers_congr rfl rfl

/-! #### Greeting (R99, R100, R142 to R144) -/

@[simp] theorem State.answers_portBecomes (s : State) (p : Port) (x : PortRecord) : (s.portBecomes p x).answers = s.answers :=
  answers_congr rfl rfl

@[simp] theorem State.answers_resumeClaims (s : State) (slots : List SlotNo) : (s.resumeClaims slots).answers = s.answers := by
  rw [State.resumeClaims_frame]
  exact answers_congr rfl rfl

@[simp] theorem State.answers_resolveOrphans (s : State) (p : Port) (y : Word) : (s.resolveOrphans p y).answers = s.answers := by
  unfold State.resolveOrphans
  split_ifs <;> simp

@[simp] theorem State.answers_takeHello (s : State) (p : Port) (seq : Byte) (m : HelloMsg) :
    (s.takeHello p seq m).answers = s.answers := by
  unfold State.takeHello
  split
  · split <;> simp [State.acceptHello_eq, State.sessionOpened_eq]
  all_goals simp

/-! #### Power and notices (R120 to R133, R175, R177) -/

@[simp] theorem State.answers_wakeIfWork (s : State) (p : Port) : (s.wakeIfWork p).answers = s.answers := by
  unfold State.wakeIfWork
  split <;> simp

@[simp] theorem State.answers_takeDozeAck (s : State) (p : Port) : (s.takeDozeAck p).answers = s.answers := by
  unfold State.takeDozeAck
  split <;> simp

@[simp] theorem State.answers_takeDozeNak (s : State) (p : Port) : (s.takeDozeNak p).answers = s.answers := by
  unfold State.takeDozeNak
  split <;> simp

@[simp] theorem State.answers_judgeSleepReq (s : State) (p : Port) : (s.judgeSleepReq p).answers = s.answers := by
  unfold State.judgeSleepReq
  split <;> simp

@[simp] theorem State.answers_takeSleepReq (s : State) (p : Port) : (s.takeSleepReq p).answers = s.answers := by
  unfold State.takeSleepReq
  split
  · split <;> simp
  all_goals simp

@[simp] theorem State.answers_takeSleepAck (s : State) (p : Port) : (s.takeSleepAck p).answers = s.answers := by
  unfold State.takeSleepAck
  split <;> simp

@[simp] theorem State.answers_takeSleepNak (s : State) (p : Port) : (s.takeSleepNak p).answers = s.answers := by
  unfold State.takeSleepNak
  split <;> simp

@[simp] theorem State.answers_endWake (s : State) (p : Port) : (s.endWake p).answers = s.answers := by
  simp [State.endWake]

@[simp] theorem State.answers_takeWake (s : State) (p : Port) : (s.takeWake p).answers = s.answers := by
  unfold State.takeWake
  split <;> simp

@[simp] theorem State.answers_takeWakeAck (s : State) (p : Port) : (s.takeWakeAck p).answers = s.answers := by
  unfold State.takeWakeAck
  split <;> simp

@[simp] theorem State.answers_takeNotice (s : State) (p : Port) (code : Byte) : (s.takeNotice p code).answers = s.answers := by
  unfold State.takeNotice
  split
  · split <;> simp
  all_goals simp

@[simp] theorem State.answers_acknowledge (s : State) (p : Port) : (s.acknowledge p).answers = s.answers := by
  unfold State.acknowledge
  split
  · rfl
  · split <;> simp

@[simp] theorem State.answers_writeAcknowledge (s : State) (m v : Word) : (s.writeAcknowledge m v).answers = s.answers := by
  unfold State.writeAcknowledge
  split_ifs <;> simp

/-! #### Host commands (R158 to R168) -/

@[simp] theorem State.answers_commandHostClaim (s : State) : s.commandHostClaim.answers = s.answers := by
  unfold State.commandHostClaim
  dsimp only
  split
  · simp
  · split
    · simp
    · split_ifs
      case neg =>
        split
        · simp
        · split <;> simp
      all_goals simp

@[simp] theorem State.answers_revokeOrphan (s : State) (n : SlotNo) (p : Port) : (s.revokeOrphan n p).answers = s.answers := by
  simp only [State.revokeOrphan, State.answers_finishCommand]
  split <;> simp

@[simp] theorem State.answers_commandFind (s : State) : s.commandFind.answers = s.answers := by
  unfold State.commandFind
  split
  · simp
  · split
    · simp
    · split <;> simp

@[simp] theorem State.answers_commandPortEnable (s : State) : s.commandPortEnable.answers = s.answers := by
  unfold State.commandPortEnable
  dsimp only
  split <;> simp

@[simp] theorem State.answers_commandPortSleep (s : State) : s.commandPortSleep.answers = s.answers := by
  unfold State.commandPortSleep
  dsimp only
  split
  · split <;> simp
  all_goals simp

@[simp] theorem State.answers_commandPortWake (s : State) : s.commandPortWake.answers = s.answers := by
  unfold State.commandPortWake
  dsimp only
  split <;> simp

@[simp] theorem State.answers_commandSetQuota (s : State) : s.commandSetQuota.answers = s.answers := by
  simp only [State.commandSetQuota]
  split <;> simp

@[simp] theorem State.answers_commandSetPool (s : State) : s.commandSetPool.answers = s.answers := by
  unfold State.commandSetPool
  split <;> simp

@[simp] theorem State.answers_commandSetTiming (s : State) : s.commandSetTiming.answers = s.answers := by
  unfold State.commandSetTiming
  dsimp only
  split
  case h_2 => split <;> simp <;> exact answers_congr rfl rfl
  all_goals exact answers_congr rfl rfl

/-! ### Entries keep their tag until they end -/

@[simp] theorem Entry.owes_note (e : Entry) (k : Nat) (st : Status) : (e.note k st).owes = e.owes := by
  unfold Entry.note
  split
  · rfl
  · split
    · rfl
    · split <;> rfl

@[simp] theorem Entry.owes_endPiece (e : Entry) (k : Nat) (st : Status) : (e.endPiece k st).owes = e.owes := by
  simp [Entry.endPiece]

@[simp] theorem Entry.owes_endIfOpen (st : Status) (e : Entry) (k : Nat) : (e.endIfOpen st k).owes = e.owes := by
  unfold Entry.endIfOpen
  split <;> simp

@[simp] theorem Entry.owes_endAll (e : Entry) (st : Status) : (e.endAll st).owes = e.owes := by
  unfold Entry.endAll
  generalize List.range e.pieces.length = ks
  induction ks generalizing e with
  | nil => rfl
  | cons k ks ih => rw [List.foldl_cons, ih, Entry.owes_endIfOpen]

@[simp] theorem Entry.owes_completePiece (e : Entry) (k : Nat) (m : CompleteMsg) : (e.completePiece k m).owes = e.owes := by
  have hstore (d : Entry) (data : List Byte) : (d.store k data).owes = d.owes := by
    unfold Entry.store
    split <;> rfl
  simp only [Entry.completePiece]
  split <;> simp [hstore]

theorem State.owing_answers {s : State} {n : EntryNo} {e : Entry} (h : s.entry n = some e) : s.answers.owing n = e.owes := by
  simp [State.answers, h]

@[simp] theorem State.answers_handOver (s : State) (c : Completion) : (s.handOver c).answers = s.answers.listing := by
  simp [State.answers, Answers.listing]

@[simp] theorem State.answers_setEntry (s : State) (n : EntryNo) (e : Option Entry) :
    (s.setEntry n e).answers = s.answers.put n (e.bind Entry.owes) := by
  ext1
  · funext k
    rw [Answers.owing_put]
    by_cases h : k = n
    · subst h; simp [State.answers]
    · simp [State.answers, h]
  · rfl

/-- A place rewritten with an entry of the same tag. -/
theorem State.answers_setEntry_same {s : State} {n : EntryNo} {e : Entry} (h : s.answers.owing n = e.owes) :
    (s.setEntry n (some e)).answers = s.answers := by
  simp [← h]

theorem State.answers_freeEntry (s : State) (n : EntryNo) (e : Entry) : (s.freeEntry n e).answers = s.answers.put n none := by
  simp [State.freeEntry]

/-! ### Operations that end entries (R64, R79, R84 to R87) -/

section

variable {a : Answers} {s : State} (h : OwesNoMore a s.answers)

include h

/-- An entry that finishes gives up its tag, for one completion if an answer was owed (R79). -/
theorem owesNoMore_finishEntry {n : EntryNo} {e : Entry} (hn : s.answers.owing n = e.owes) :
    OwesNoMore a (s.finishEntry n e).answers := by
  refine h.trans ?_
  simp only [State.finishEntry, State.answers_freeEntry]
  split
  next tag howes =>
    rw [State.answers_handOver]
    exact owesNoMore_listing_put_none (by simp [hn, howes])
  next =>
    split
    · exact owesNoMore_put_none _ n
    · exact owesNoMore_put_none _ n

theorem owesNoMore_endEntry {n : EntryNo} {e : Entry} (hn : s.entry n = some e) (st : Status) :
    OwesNoMore a (s.endEntry n e st).answers :=
  owesNoMore_finishEntry (by simpa using h) (by simp [State.owing_answers hn])

@[simp] theorem owesNoMore_endEntries (reaches : Entry → Bool) (st : Status) :
    OwesNoMore a (s.endEntries reaches st).answers := by
  refine owesNoMore_foldl (fun s n h => ?_) _ h
  split
  next e he =>
    split
    · exact owesNoMore_endEntry h he st
    · exact h
  next => exact h

@[simp] theorem owesNoMore_purge (n : SlotNo) (st : Status) : OwesNoMore a (s.purge n st).answers :=
  owesNoMore_endEntries h _ st

@[simp] theorem owesNoMore_retrainEntries (p : Port) : OwesNoMore a (s.retrainEntries p).answers := by
  simp [State.retrainEntries, h]

@[simp] theorem owesNoMore_dropEntries (p : Port) : OwesNoMore a (s.dropEntries p).answers := by
  simp [State.dropEntries, h]

@[simp] theorem owesNoMore_startDrain (n : SlotNo) (c : Claim) (cause : RetireCause) :
    OwesNoMore a (s.startDrain n c cause).answers := by
  simp [State.startDrain, h]

@[simp] theorem owesNoMore_acceptReshape (n : SlotNo) (c : Claim) (base size : Nat) :
    OwesNoMore a (s.acceptReshape n c base size).answers := by
  simp [State.acceptReshape, h]

@[simp] theorem owesNoMore_enterRealign (p : Port) : OwesNoMore a (s.enterRealign p).answers := by
  simp [State.enterRealign, h]

@[simp] theorem owesNoMore_linkLoss (p : Port) : OwesNoMore a (s.linkLoss p).answers := by
  simp [State.linkLoss, h]

@[simp] theorem owesNoMore_attemptFailure (p : Port) : OwesNoMore a (s.attemptFailure p).answers := by
  simp only [State.attemptFailure]
  split <;> simp [h]

@[simp] theorem owesNoMore_closePort (p : Port) (st : PortState) (signalling : Timer) :
    OwesNoMore a (s.closePort p st signalling).answers := by
  simp [State.closePort, h]

@[simp] theorem owesNoMore_badCheck (p : Port) : OwesNoMore a (s.badCheck p).answers := by
  unfold State.badCheck
  split <;> simp [h]

/-- A message that arrives owes no more than its own effect does. -/
theorem owesNoMore_receive (p : Port) (seq : Byte) {act : State → State}
    (hact : ∀ u : State, OwesNoMore a u.answers → OwesNoMore a (act u).answers) : OwesNoMore a (s.receive p seq act).answers := by
  unfold State.receive
  split
  case h_5 | h_6 => exact hact _ h
  case h_7 | h_8 | h_9 | h_10 =>
    split
    · exact hact _ (by simpa using h)
    · exact owesNoMore_badCheck h p
  all_goals exact h

/-! ### Pieces (R71, R74) -/

theorem owesNoMore_issuePiece (p : Port) {n : EntryNo} {e : Entry} (hn : s.entry n = some e) (tag : PieceTag) :
    OwesNoMore a (s.issuePiece p n e tag).answers := by
  have hsame : (s.setEntry n (some (e.issueNext tag s.completionTimeout))).answers = s.answers :=
    State.answers_setEntry_same ((State.owing_answers hn).trans rfl)
  simp only [State.issuePiece, State.answers_transmit, State.answers_modifyPort, hsame, h]

theorem owesNoMore_matchedComplete (p : Port) {n : EntryNo} {e : Entry} (hn : s.entry n = some e) (m : CompleteMsg) :
    OwesNoMore a (s.matchedComplete p n e m).answers := by
  have howes : s.answers.owing n = e.owes := State.owing_answers hn
  have hfinish (u : State) (hu : u.answers = s.answers) (k : Nat) :
      OwesNoMore a (if (e.completePiece k m).finished then u.finishEntry n (e.completePiece k m)
        else u.setEntry n (some (e.completePiece k m))).answers := by
    split
    · exact owesNoMore_finishEntry (hu ▸ h) (by simp [hu, howes])
    · rw [State.answers_setEntry_same (by simp [hu, howes]), hu]
      exact h
  exact hfinish _ (by split <;> simp) _

theorem owesNoMore_takeComplete (p : Port) (m : CompleteMsg) : OwesNoMore a (s.takeComplete p m).answers := by
  unfold State.takeComplete
  split
  · exact h
  · split
    · exact h
    · split
      next e he => exact owesNoMore_matchedComplete h p he m
      next => exact h

/-! ### Claim messages (R26 to R33) -/

@[simp] theorem owesNoMore_judgeClaim (p : Port) (m : ClaimFields) : OwesNoMore a (s.judgeClaim p m).answers := by
  unfold State.judgeClaim
  split
  · simp [h]
  next sp _ =>
    generalize (if m.any then none else some m.base.toNat) = base
    dsimp only
    split_ifs
    case neg =>
      split
      · simp [h]
      · split <;> simp [h]
    all_goals simp [h]

@[simp] theorem owesNoMore_judgeReshapeOf (p : Port) (m : ReshapeFields) (n : SlotNo) (c : Claim) :
    OwesNoMore a (s.judgeReshapeOf p m n c).answers := by
  unfold State.judgeReshapeOf
  generalize (if m.any then none else some m.base.toNat) = base
  dsimp only
  split_ifs
  case neg => split <;> simp [h]
  all_goals simp [h]

@[simp] theorem owesNoMore_judgeReshape (p : Port) (m : ReshapeFields) : OwesNoMore a (s.judgeReshape p m).answers := by
  unfold State.judgeReshape
  split
  · simp [h]
  · split <;> simp [h]

@[simp] theorem owesNoMore_judgeRelease (p : Port) (k : Handle) : OwesNoMore a (s.judgeRelease p k).answers := by
  unfold State.judgeRelease
  split
  · simp [h]
  · split
    · simp [h]
    · split <;> simp [h]

/-! ### Ports and their links (R87, R93, R105, R107) -/

@[simp] theorem owesNoMore_losePartner (p : Port) : OwesNoMore a (s.losePartner p).answers := by
  unfold State.losePartner
  split <;> simp [h]

@[simp] theorem owesNoMore_wakeFailure (p : Port) : OwesNoMore a (s.wakeFailure p).answers := by
  simp [State.wakeFailure, h]

@[simp] theorem owesNoMore_takeAlignAck (p : Port) (seq : Byte) (y : Word) : OwesNoMore a (s.takeAlignAck p seq y).answers := by
  unfold State.takeAlignAck
  split
  · split <;> simp [State.returnToRun, h]
  all_goals exact h

/-! ### Host commands and window writes (R61, R153, R154, R159, R160, R163, R164) -/

@[simp] theorem owesNoMore_commandHostRetire : OwesNoMore a s.commandHostRetire.answers := by
  unfold State.commandHostRetire
  dsimp only
  split
  · simp [h]
  · split
    · simp [h]
    · split <;> simp [h]

@[simp] theorem owesNoMore_commandRevoke : OwesNoMore a s.commandRevoke.answers := by
  unfold State.commandRevoke
  dsimp only
  split
  · simp [h]
  · split
    · simp [h]
    · split
      case h_4 => split <;> simp [h]
      all_goals simp [h]

@[simp] theorem owesNoMore_commandPortDisable : OwesNoMore a s.commandPortDisable.answers := by
  unfold State.commandPortDisable
  dsimp only
  split <;> simp [h]

@[simp] theorem owesNoMore_commandPortReset : OwesNoMore a s.commandPortReset.answers := by
  unfold State.commandPortReset
  dsimp only
  split <;> simp [h]

@[simp] theorem owesNoMore_commandPortRetrain : OwesNoMore a s.commandPortRetrain.answers := by
  unfold State.commandPortRetrain
  dsimp only
  split <;> simp [h]

@[simp] theorem owesNoMore_perform (c : HostCommand) : OwesNoMore a (s.perform c).answers := by
  cases c <;> simp [State.perform, State.commandReadClaim, State.commandSetHold, h]

@[simp] theorem owesNoMore_startCommand : OwesNoMore a s.startCommand.answers := by
  unfold State.startCommand
  split
  · simp [h]
  · split <;> simp [h]

@[simp] theorem owesNoMore_issue : OwesNoMore a s.issue.answers := by
  unfold State.issue
  split <;> simp [h]

@[simp] theorem owesNoMore_writeRegister (r : Register) (m v : Word) : OwesNoMore a (s.writeRegister r m v).answers := by
  have hsame {t : State} (ht : t.answers = s.answers) : OwesNoMore a t.answers := ht ▸ h
  cases r with
  | issue => exact owesNoMore_issue h
  | noticeAcknowledge => exact hsame (State.answers_writeAcknowledge s m v)
  | _ => exact hsame (answers_congr rfl rfl)

@[simp] theorem owesNoMore_windowStore (offset : Nat) (data : List Byte) : OwesNoMore a (s.windowStore offset data).answers := by
  unfold State.windowStore
  split <;> simp [h]

/-! ### A host link reset (R64) -/

theorem owesNoMore_hostResetEntries : OwesNoMore a s.hostResetEntries.answers := by
  refine owesNoMore_foldl (fun s n h => ?_) _ h
  have hput : OwesNoMore a (s.answers.put n none) := h.trans (owesNoMore_put_none _ n)
  split
  · unfold State.hostResetEntry
    split
    · exact h
    · split
      · rw [State.answers_freeEntry]; exact hput
      · rw [State.answers_setEntry]; exact hput
  · exact h

end

/-! ### The router (R46, R50, R55 to R57) -/

/-- From `a` to `b` both laws are kept. -/
structure KeepsAnswers (a b : Answers) : Prop where
  distinct : a.Distinct → b.Distinct
  inRoom : a.InRoom → b.InRoom

theorem OwesNoMore.keepsAnswers {a b : Answers} (h : OwesNoMore a b) : KeepsAnswers a b :=
  ⟨h.distinct, h.inRoom⟩

/-- Below the router's limit one more completion has room, whatever is owed (R46, R48). -/
theorem OwesNoMore.keepsAnswers_listing {a b : Answers} (h : OwesNoMore a b) (ha : a.listed < 64) : KeepsAnswers a b.listing := by
  refine ⟨h.distinct, fun _ => ?_⟩
  have hlisted := h.total
  have howed := a.owed_le
  simp only [Answers.InRoom, Answers.listed_listing, Answers.owed_listing]
  omega

/-- A place that comes to owe an answer under a tag that none holds. -/
theorem Answers.Distinct.put {a : Answers} (h : a.Distinct) {o : Option HostTag} (ho : o ≠ none → ∀ k, a.owing k ≠ o) (n : EntryNo) :
    (a.put n o).Distinct := by
  intro j k hjk hsame
  rw [Answers.owing_put, Answers.owing_put] at hsame
  rw [Answers.owing_put]
  by_contra hsome
  split_ifs at hsame hsome with hj hk hk
  · exact hjk (hj.trans hk.symm)
  · exact ho hsome k hsame.symm
  · exact ho (hsame ▸ hsome) j hsame
  · exact hsome (h j k hjk hsame)

theorem State.answers_createEntry (s : State) (place : EntryNo) (e : Entry) (tag : HostTag) :
    (s.createEntry place e tag).answers =
      if e.posted then (s.answers.put place e.owes).listing else s.answers.put place e.owes := by
  simp only [State.createEntry]
  split <;> simp

/-- An entry created below the router's limit, under a tag that no place owes an answer under. -/
theorem keepsAnswers_createEntry {s : State} {e : Entry} (hroom : s.completions.length < 64)
    (htag : e.owes ≠ none → ∀ k, s.answers.owing k ≠ e.owes) (place : EntryNo) (tag : HostTag) :
    KeepsAnswers s.answers (s.createEntry place e tag).answers := by
  have hlisted : s.answers.listed < 64 := hroom
  rw [State.answers_createEntry]
  split
  · exact ⟨fun h => h.put htag place, fun _ => Answers.inRoom_of_listed hlisted⟩
  · exact ⟨fun h => h.put htag place, fun _ => Answers.inRoom_of_listed hlisted.le⟩

theorem owes_newEntry_ne_none {r : Request} {k : AccessKind} {sp : Space} {n : SlotNo} {p : Port} {a : Attributes}
    (h : (newEntry r k sp n p a).owes ≠ none) : (newEntry r k sp n p a).owes = some r.tag := by
  simp only [newEntry] at h ⊢
  split
  next hposted => exact absurd (if_pos hposted) h
  next => rfl

/-- A tag that passes the tag check is owed nowhere (R50). -/
theorem State.owing_ne_of_not_tagHeld {s : State} {tag : HostTag} (h : s.tagHeld tag = false) (k : EntryNo) :
    s.answers.owing k ≠ some tag := by
  intro howing
  obtain ⟨e, he, howes⟩ := Option.bind_eq_some_iff.mp howing
  exact State.tagHeld_eq_false.mp h k e he howes

theorem keepsAnswers_takeRequest {s : State} (hroom : s.completions.length < 64) (raw : HostRequest) :
    KeepsAnswers s.answers (s.takeRequest raw).answers := by
  have hanswer (st : Status) : KeepsAnswers s.answers (s.answer raw.decode st).answers := by
    rw [State.answer, State.answers_handOver]
    exact (OwesNoMore.refl _).keepsAnswers_listing hroom
  simp only [State.takeRequest]
  split
  next => exact hanswer _
  next =>
    split
    next => exact hanswer _
    next hfree =>
      have htag := State.owing_ne_of_not_tagHeld (Bool.eq_false_iff.mpr hfree)
      split
      next k sp _ _ =>
        split
        next => exact hanswer _
        next =>
          cases k with
          | read =>
            rw [State.serveWindow, State.answers_handOver]
            exact (OwesNoMore.refl _).keepsAnswers_listing hroom
          | write =>
            rw [State.serveWindow, State.answers_handOver]
            exact (owesNoMore_windowStore (OwesNoMore.refl _) _ _).keepsAnswers_listing hroom
        next =>
          split
          next => exact hanswer _
          next place _ =>
            refine keepsAnswers_createEntry hroom (fun hsome j => ?_) place _
            rw [owes_newEntry_ne_none hsome]
            exact htag j
      next => exact hanswer _

theorem keepsAnswers_routeNext (s : State) : KeepsAnswers s.answers s.routeNext.answers := by
  have hidle : KeepsAnswers s.answers s.answers := (OwesNoMore.refl _).keepsAnswers
  unfold State.routeNext
  split
  · exact hidle
  · split
    next hroom =>
      split
      · exact hidle
      next r rest _ => exact keepsAnswers_takeRequest (s := { s with waiting := rest }) hroom r
    next => exact hidle

theorem keepsAnswers_hostArrival (s : State) (r : HostRequest) : KeepsAnswers s.answers (s.hostArrival r).answers := by
  unfold State.hostArrival
  split
  · exact (OwesNoMore.refl _).keepsAnswers
  · exact keepsAnswers_routeNext { s with waiting := s.waiting ++ [r] }

theorem keepsAnswers_issueRow (s : State) (c : Option HostCommand) (tag : HostTag) (w : IssueWrite) :
    KeepsAnswers s.answers (s.issueRow c tag w).answers := by
  unfold State.issueRow
  split
  · exact keepsAnswers_hostArrival s _
  · exact (OwesNoMore.refl _).keepsAnswers

/-! ### Commands and steps -/

/-- The answers after the outcome, if it is a next state, meet `P`. -/
def AnswersAfter (P : Answers → Prop) (o : Host.Outcome State Fault Refusal) : Prop :=
  ∀ t, o = .next t → P t.answers

@[simp] theorem answersAfter_next (P : Answers → Prop) (t : State) : AnswersAfter P (.next t) ↔ P t.answers := by
  simp [AnswersAfter]

theorem AnswersAfter.keepsAnswers {a : Answers} {o : Host.Outcome State Fault Refusal} (h : AnswersAfter (OwesNoMore a) o) :
    AnswersAfter (KeepsAnswers a) o :=
  fun t ht => (h t ht).keepsAnswers

/-- Power-on reset writes the reset state, where the queue and the partners stand (logs 7, 21). -/
theorem execPowerOnReset_eq (winsel : BitVec 4) (s : State) :
    execPowerOnReset winsel s =
      .next { State.powerOn winsel with ports := ((State.powerOn winsel).keepPresence s).ports, pending := s.pending } := by
  unfold execPowerOnReset
  conv_lhs => rw [State.keepPresence_frame]

theorem execPowerOnReset_owesNoMore (winsel : BitVec 4) (s : State) :
    AnswersAfter (OwesNoMore s.answers) (execPowerOnReset winsel s) := by
  rw [execPowerOnReset_eq, answersAfter_next]
  exact owesNoMore_nothing (fun k => by simp [State.answers, State.entry, State.powerOn]) rfl

theorem execHostLinkReset_owesNoMore (s : State) : AnswersAfter (OwesNoMore s.answers) (execHostLinkReset s) := by
  unfold execHostLinkReset
  split
  · simp
  · rw [answersAfter_next, State.answers_raiseGlobal]
    exact owesNoMore_hostResetEntries (OwesNoMore.refl s.answers)

theorem execCompletionSend_owesNoMore (s : State) : AnswersAfter (OwesNoMore s.answers) (execCompletionSend s) := by
  unfold execCompletionSend
  split
  next c rest _ hlist =>
    rw [answersAfter_next]
    refine ⟨fun _ => .inr rfl, Nat.add_le_add_right ?_ s.answers.owed⟩
    simp [State.answers, hlist]
  all_goals simp

theorem execPresenceAppears_owesNoMore (p : Port) (s : State) :
    AnswersAfter (OwesNoMore s.answers) (execPresenceAppears p s) := by
  unfold execPresenceAppears
  dsimp only
  split_ifs <;> simp

theorem execPresenceLost_owesNoMore (p : Port) (s : State) : AnswersAfter (OwesNoMore s.answers) (execPresenceLost p s) := by
  unfold execPresenceLost
  split <;> simp

theorem execGreetEntry_owesNoMore (p : Port) (s : State) : AnswersAfter (OwesNoMore s.answers) (execGreetEntry p s) := by
  unfold execGreetEntry
  split <;> simp

theorem execGreetTimerExpiry_owesNoMore (p : Port) (s : State) :
    AnswersAfter (OwesNoMore s.answers) (execGreetTimerExpiry p s) := by
  unfold execGreetTimerExpiry
  split <;> simp

theorem execAttemptTimerExpiry_owesNoMore (p : Port) (s : State) :
    AnswersAfter (OwesNoMore s.answers) (execAttemptTimerExpiry p s) := by
  unfold execAttemptTimerExpiry
  split <;> simp

theorem execResetSignallingTimerExpiry_owesNoMore (p : Port) (s : State) :
    AnswersAfter (OwesNoMore s.answers) (execResetSignallingTimerExpiry p s) := by
  unfold execResetSignallingTimerExpiry
  split <;> simp

theorem execTakeClaim_owesNoMore (p : Port) (s : State) : AnswersAfter (OwesNoMore s.answers) (execTakeClaim p s) := by
  unfold execTakeClaim
  split <;> simp

theorem execTakeReshape_owesNoMore (p : Port) (s : State) : AnswersAfter (OwesNoMore s.answers) (execTakeReshape p s) := by
  unfold execTakeReshape
  split <;> simp

theorem execTakeRelease_owesNoMore (p : Port) (s : State) : AnswersAfter (OwesNoMore s.answers) (execTakeRelease p s) := by
  unfold execTakeRelease
  split <;> simp

theorem execOwedMessageSend_owesNoMore (p : Port) (s : State) :
    AnswersAfter (OwesNoMore s.answers) (execOwedMessageSend p s) := by
  unfold execOwedMessageSend
  split
  · split <;> simp
  · simp

theorem execPieceIssue_owesNoMore (p : Port) (s : State) : AnswersAfter (OwesNoMore s.answers) (execPieceIssue p s) := by
  unfold execPieceIssue
  split
  · split
    next n _ tag _ _ =>
      split
      next e he => exact (answersAfter_next _ _).mpr (owesNoMore_issuePiece (OwesNoMore.refl _) p he tag)
      next => simp
    all_goals simp
  · simp

theorem execComplete_owesNoMore (p : Port) (seq : Byte) (m : CompleteMsg) (s : State) :
    AnswersAfter (OwesNoMore s.answers) (execComplete p seq m s) := by
  unfold execComplete
  split
  · simp
  · exact (answersAfter_next _ _).mpr
      (owesNoMore_receive (OwesNoMore.refl _) p seq fun u hu => owesNoMore_takeComplete hu p m)

theorem execCompletionTimerExpiry_owesNoMore (n : EntryNo) (s : State) :
    AnswersAfter (OwesNoMore s.answers) (execCompletionTimerExpiry n s) := by
  unfold execCompletionTimerExpiry
  split
  next => simp
  next e he =>
    split
    · rw [answersAfter_next]
      refine owesNoMore_enterRealign ?_ _
      rw [State.answers_raisePort]
      exact owesNoMore_endEntry (OwesNoMore.refl _) he _
    · simp

theorem execHoldTimerExpiry_owesNoMore (p : Port) (s : State) :
    AnswersAfter (OwesNoMore s.answers) (execHoldTimerExpiry p s) := by
  unfold execHoldTimerExpiry
  split <;> simp

theorem execDozeIdleTimerExpiry_owesNoMore (p : Port) (s : State) :
    AnswersAfter (OwesNoMore s.answers) (execDozeIdleTimerExpiry p s) := by
  unfold execDozeIdleTimerExpiry
  split_ifs <;> simp [State.sendDozeReq]

theorem execHandshakeAnswerTimerExpiry_owesNoMore (p : Port) (s : State) :
    AnswersAfter (OwesNoMore s.answers) (execHandshakeAnswerTimerExpiry p s) := by
  unfold execHandshakeAnswerTimerExpiry
  split <;> simp

theorem execWakeExitTimerExpiry_owesNoMore (p : Port) (s : State) :
    AnswersAfter (OwesNoMore s.answers) (execWakeExitTimerExpiry p s) := by
  unfold execWakeExitTimerExpiry
  split <;> simp

/-- A message whose own effect owes no more, wherever it arrives. -/
theorem answersAfter_receive (p : Port) (seq : Byte) (s : State) {act : State → State}
    (hact : ∀ a (u : State), OwesNoMore a u.answers → OwesNoMore a (act u).answers) :
    AnswersAfter (KeepsAnswers s.answers) (.next (s.receive p seq act)) :=
  (answersAfter_next _ _).mpr (owesNoMore_receive (OwesNoMore.refl _) p seq (hact _)).keepsAnswers

theorem answersAfter_hostArrival (s : State) (r : HostRequest) :
    AnswersAfter (KeepsAnswers s.answers) (.next (s.hostArrival r)) :=
  (answersAfter_next _ _).mpr (keepsAnswers_hostArrival s r)

theorem answersAfter_issueRow (s : State) (c : Option HostCommand) (tag : HostTag) (w : IssueWrite) :
    AnswersAfter (KeepsAnswers s.answers) (.next (s.issueRow c tag w)) :=
  (answersAfter_next _ _).mpr (keepsAnswers_issueRow s c tag w)

theorem exec_keepsAnswers (i : Instr) (s : State) : AnswersAfter (KeepsAnswers s.answers) (exec i s) := by
  cases i with
  | powerOnReset w => exact (execPowerOnReset_owesNoMore w s).keepsAnswers
  | hostLinkUp => exact (answersAfter_next _ _).mpr (OwesNoMore.refl s.answers).keepsAnswers
  | hostLinkReset => exact (execHostLinkReset_owesNoMore s).keepsAnswers
  | completionSend => exact (execCompletionSend_owesNoMore s).keepsAnswers
  | hostRequest | windowWrite | flagClear | maskWrite | noticeAcknowledge => exact answersAfter_hostArrival s _
  | badCommand | hostClaim | hostRetire | revoke | readClaim | find | portEnable | portDisable | portReset | portRetrain
  | portSleep | portWake | setQuota | setHold | setPool | setTiming => exact answersAfter_issueRow s _ _ _
  | presenceAppears p => exact (execPresenceAppears_owesNoMore p s).keepsAnswers
  | presenceLost p => exact (execPresenceLost_owesNoMore p s).keepsAnswers
  | greetEntry p => exact (execGreetEntry_owesNoMore p s).keepsAnswers
  | greetTimerExpiry p => exact (execGreetTimerExpiry_owesNoMore p s).keepsAnswers
  | badCheckMessage p => exact (answersAfter_next _ _).mpr (owesNoMore_badCheck (OwesNoMore.refl _) p).keepsAnswers
  | attemptTimerExpiry p => exact (execAttemptTimerExpiry_owesNoMore p s).keepsAnswers
  | resetSignallingTimerExpiry p => exact (execResetSignallingTimerExpiry_owesNoMore p s).keepsAnswers
  | takeClaim p => exact (execTakeClaim_owesNoMore p s).keepsAnswers
  | takeReshape p => exact (execTakeReshape_owesNoMore p s).keepsAnswers
  | takeRelease p => exact (execTakeRelease_owesNoMore p s).keepsAnswers
  | owedMessageSend p => exact (execOwedMessageSend_owesNoMore p s).keepsAnswers
  | pieceIssue p => exact (execPieceIssue_owesNoMore p s).keepsAnswers
  | complete p seq m => exact (execComplete_owesNoMore p seq m s).keepsAnswers
  | completionTimerExpiry n => exact (execCompletionTimerExpiry_owesNoMore n s).keepsAnswers
  | holdTimerExpiry p => exact (execHoldTimerExpiry_owesNoMore p s).keepsAnswers
  | dozeIdleTimerExpiry p => exact (execDozeIdleTimerExpiry_owesNoMore p s).keepsAnswers
  | handshakeAnswerTimerExpiry p => exact (execHandshakeAnswerTimerExpiry_owesNoMore p s).keepsAnswers
  | wakeExitTimerExpiry p => exact (execWakeExitTimerExpiry_owesNoMore p s).keepsAnswers
  | alignAck p seq y => exact answersAfter_receive p seq s fun _ _ hu => owesNoMore_takeAlignAck hu p seq y
  | hello | unknownMessage | claim | reshape | release | dozeAck | dozeNak | sleepReq | sleepAck | sleepNak | wake | wakeAck
  | notice => exact answersAfter_receive _ _ s fun _ _ hu => by simpa using hu

theorem step_keepsAnswers {s t : State} (h : step s = .next t) : KeepsAnswers s.answers t.answers := by
  unfold step at h
  split at h
  next =>
    obtain rfl := Host.Outcome.next.inj h
    exact keepsAnswers_routeNext s
  next c rest _ => exact exec_keepsAnswers c { s with pending := rest } t h

/-- Settles O56: the two laws speak of the answers alone, and every step keeps them. -/
theorem stepKeepsAnswersDistinctAndInRoom : Obligations.StepKeepsAnswersDistinctAndInRoom := by
  intro s t hstep
  obtain ⟨hdistinct, hroom⟩ := step_keepsAnswers hstep
  rw [tagLaw_iff, tagLaw_iff, completionRoom_iff, completionRoom_iff]
  exact ⟨hdistinct, hroom⟩

end Sys2Proof.Machine
end

section
/-! PROOFS. The queue's end, power-on reset, the host link, the router's answers at once, and the pieces of an access. -/

namespace Sys2Proof.Machine

open Sys2Proof

/-! ### An empty queue, power-on reset, the host link (R46, R48, R90, R92) -/

theorem step_empty {s : State} (h : s.pending = []) : step s = .next s.routeNext := by
  unfold step
  rw [h]

theorem State.routeNext_idle {s : State} (h : s.waiting = [] ∨ s.hostLink = .reset ∨ 64 ≤ s.completions.length) :
    s.routeNext = s := by
  unfold State.routeNext
  split
  next => rfl
  next hup =>
    split
    next hroom =>
      have hnone : s.waiting = [] :=
        h.resolve_right (not_or.mpr ⟨by simp [hup], Nat.not_le.mpr hroom⟩)
      rw [hnone]
    next => rfl

theorem State.routeNext_takes {s : State} {r : HostRequest} {rest : List HostRequest} (hwait : s.waiting = r :: rest)
    (hup : s.hostLink = .up) (hroom : s.completions.length < 64) :
    s.routeNext = State.takeRequest { s with waiting := rest } r := by
  unfold State.routeNext
  rw [hup, hwait]
  exact if_pos hroom

/-- Settles O2: the router idles, or takes the first request that waits. -/
theorem emptyQueueServesWaitingRequest : Obligations.EmptyQueueServesWaitingRequest := by
  intro s hempty
  rw [step_empty hempty]
  refine ⟨fun hidle => ?_, fun r rest hwait hup hroom => ?_⟩
  · rw [State.routeNext_idle hidle]
  · rw [State.routeNext_takes hwait hup hroom]

theorem execCompletionSend_up {s : State} {c : Completion} {rest : List Completion} (hup : s.hostLink = .up)
    (hlist : s.completions = c :: rest) :
    execCompletionSend s = .next { s with completions := rest, hostSent := s.hostSent ++ [c] } := by
  unfold execCompletionSend
  rw [hup, hlist]

theorem execCompletionSend_idle {s : State} (h : s.hostLink = .reset ∨ s.completions = []) :
    execCompletionSend s = .next s := by
  unfold execCompletionSend
  split
  next hup hlist => simp [hup, hlist] at h
  all_goals rfl

/-- Settles O8: training by definition, the sending by its two cases. -/
theorem hostLinkTrainsAndSends : Obligations.HostLinkTrainsAndSends :=
  fun _ => ⟨rfl, fun _ _ => execCompletionSend_up, execCompletionSend_idle⟩

theorem State.port_powerOn (winsel : BitVec 4) (p : Port) : (State.powerOn winsel).port p = PortRecord.reset := by
  simp [State.port, State.powerOn]

theorem State.entry_powerOn (winsel : BitVec 4) (k : EntryNo) : (State.powerOn winsel).entry k = none := by
  simp [State.entry, State.powerOn]

/-- Settles O5: the reset state has these values, and the ports keep their partners. -/
theorem powerOnResetClearsBlocks : Obligations.PowerOnResetClearsBlocks := by
  intro winsel s
  refine ⟨_, execPowerOnReset_eq winsel s, rfl, rfl, rfl, rfl, rfl, State.entry_powerOn winsel, rfl, rfl, rfl, rfl, rfl, rfl, rfl,
    rfl, rfl, rfl, fun p => ⟨3, [], ?_⟩⟩
  change ((State.powerOn winsel).keepPresence s).port p = _
  rw [State.keepPresence_port, State.port_powerOn]
  rfl

/-! ### Lookup (R21) -/

theorem extentsMeet_byte (address : Nat) (x : Nat × Nat) :
    extentsMeet (address, 1) x = true ↔ x.1 ≤ address ∧ address < x.1 + x.2 := by
  simp only [extentsMeet, Bool.and_eq_true, decide_eq_true_eq]
  omega

theorem Claim.meets_byte_iff (c : Claim) (sp : Space) (address : Nat) : c.meets sp (address, 1) = true ↔ Covers c sp address := by
  simp only [Claim.meets, Covers, Bool.and_eq_true, beq_iff_eq, List.any_eq_true, extentsMeet_byte]

/-- Two claims do not cover one address (R14). -/
theorem OverlapLaw.covers_unique {s : State} (h : OverlapLaw s) {sp : Space} {address : Nat} {m n : SlotNo} {c d : Claim}
    (hm : s.claim m = some c) (hn : s.claim n = some d) (hc : Covers c sp address) (hd : Covers d sp address) : m = n := by
  by_contra hne
  obtain ⟨hcs, x, hx, hx1, hx2⟩ := hc
  obtain ⟨hds, y, hy, hy1, hy2⟩ := hd
  have hmeet := h m n hne c d hm hn (hcs.trans hds.symm) x hx y hy
  simp only [extentsMeet, Bool.and_eq_false_iff, decide_eq_false_iff_not] at hmeet
  omega

theorem State.lookup_eq_none {s : State} {sp : Space} {address : Nat}
    (h : ∀ n : SlotNo, ∀ c, s.claim n = some c → ¬ Covers c sp address) : s.lookup sp address = none := by
  rw [State.lookup, List.find?_eq_none]
  intro n _
  cases hc : s.claim n with
  | none => simp
  | some c => simpa [Claim.meets_byte_iff] using h n c hc

theorem State.lookup_covers {s : State} {sp : Space} {address : Nat} {n : SlotNo} (h : s.lookup sp address = some n) :
    ∃ c, s.claim n = some c ∧ Covers c sp address := by
  have hfound := List.find?_some h
  cases hc : s.claim n with
  | none => simp [hc] at hfound
  | some c => exact ⟨c, rfl, (Claim.meets_byte_iff c sp address).mp (by simpa [hc] using hfound)⟩

theorem State.lookup_eq_some {s : State} (hlaw : OverlapLaw s) {sp : Space} {address : Nat} {n : SlotNo} {c : Claim}
    (hn : s.claim n = some c) (hc : Covers c sp address) : s.lookup sp address = some n := by
  cases hlook : s.lookup sp address with
  | none =>
    refine absurd hc ((Claim.meets_byte_iff c sp address).not.mp ?_)
    simpa [hn] using List.find?_eq_none.mp hlook n (mem_allSlots n)
  | some m =>
    obtain ⟨d, hm, hd⟩ := State.lookup_covers hlook
    rw [hlaw.covers_unique hm hn hd hc]

/-! ### Validation (R49, R179) -/

theorem kindOfCode_eq_none_iff (code : Nat) : kindOfCode code = none ↔ code ≠ 1 ∧ code ≠ 2 := by
  unfold kindOfCode
  split <;> simp_all

theorem spaceOfCode_eq_none_iff (code : Nat) : spaceOfCode code = none ↔ code ≠ 1 ∧ code ≠ 2 := by
  unfold spaceOfCode
  split <;> simp_all

theorem kindOfCode_eq_some_iff (code : Nat) (k : AccessKind) : kindOfCode code = some k ↔ code = k.code := by
  unfold kindOfCode
  split <;> cases k <;> simp_all [AccessKind.code]

theorem spaceOfCode_eq_some_iff (code : Nat) (sp : Space) : spaceOfCode code = some sp ↔ code = sp.code := by
  unfold spaceOfCode
  split <;> cases sp <;> simp_all [Space.code]

@[simp] theorem HostRequest.tag_decode (r : HostRequest) : r.decode.tag = requestTag r := rfl
@[simp] theorem HostRequest.kind_decode (r : HostRequest) : r.decode.kind = kindOfCode (requestKind r) := rfl
@[simp] theorem HostRequest.space_decode (r : HostRequest) : r.decode.space = spaceOfCode (requestSpace r) := rfl
@[simp] theorem HostRequest.length_decode (r : HostRequest) : r.decode.length = requestLength r := rfl
@[simp] theorem HostRequest.address_decode (r : HostRequest) : r.decode.address = r.address.toNat := rfl
@[simp] theorem HostRequest.data_decode (r : HostRequest) : r.decode.data = r.data := rfl

theorem State.inWindow_iff {s : State} (h0 : s.claim 0 = some (windowClaim s.winsel)) (sp : Space) (address : Nat) :
    s.inWindow sp address = true ↔
      sp = .mem ∧ windowBase s.winsel ≤ address ∧ address < windowBase s.winsel + 0x1000 := by
  simp [State.inWindow, h0, Claim.meets_byte_iff, Covers, windowClaim, Claim.extents]
  exact fun _ _ => eq_comm

theorem dataFault_iff (k : AccessKind) (length : Nat) (data : List Byte) :
    dataFault k length data = true ↔ (k = .write ∧ data.length ≠ length) ∨ (k = .read ∧ data ≠ []) := by
  cases k <;> simp [dataFault]

/-- The router's validation is R49 as the statements write it. -/
theorem State.malformed_iff {s : State} (h0 : s.claim 0 = some (windowClaim s.winsel)) (r : HostRequest) :
    s.malformed r.decode = true ↔ IllFormed s r := by
  have hmem : ¬ 0xFFFFFFFF < r.address.toNat := by have := r.address.isLt; omega
  unfold State.malformed
  rw [HostRequest.kind_decode, HostRequest.space_decode]
  split
  next k sp hk hsp =>
    rw [kindOfCode_eq_some_iff] at hk
    rw [spaceOfCode_eq_some_iff] at hsp
    simp only [Bool.or_eq_true, Bool.and_eq_true, decide_eq_true_eq, State.inWindow_iff h0, dataFault_iff, IllFormed, hk, hsp]
    cases k <;> cases sp <;>
      simp [AccessKind.code, Space.code, Space.lengths, Space.lastAddress, hmem, or_assoc, and_assoc]
  next hnone =>
    have hcodes : kindOfCode (requestKind r) = none ∨ spaceOfCode (requestSpace r) = none := by
      by_contra hsome
      obtain ⟨⟨k, hk⟩, ⟨sp, hsp⟩⟩ := (not_or.mp hsome).imp Option.ne_none_iff_exists'.mp Option.ne_none_iff_exists'.mp
      exact hnone k sp hk hsp
    rw [kindOfCode_eq_none_iff, spaceOfCode_eq_none_iff] at hcodes
    simp only [IllFormed, true_iff]
    exact hcodes.imp_right .inl

/-! ### Answers at once (R49, R50, R52, R55) -/

theorem State.answer_decode (s : State) (r : HostRequest) (st : Status) :
    s.answer r.decode st = s.answered (requestTag r) st r.decode.fill :=
  rfl

/-- Every length of R49 is one of the MEM lengths. -/
theorem contains_mem_lengths {n : Nat} {sp : Space} (h : n ∈ Space.lengths sp) : (Space.lengths .mem).contains n = true := by
  cases sp <;> simp [Space.lengths] at h ⊢ <;> omega

theorem length_of_not_illFormed {s : State} {r : HostRequest} (h : ¬ IllFormed s r) :
    (Space.lengths .mem).contains (requestLength r) = true := by
  simp only [IllFormed, not_or, not_and, not_not] at h
  obtain ⟨_, hspace, hmem, hio, _⟩ := h
  by_cases hcode : requestSpace r = 1
  · exact contains_mem_lengths (sp := .mem) (hmem hcode)
  · exact contains_mem_lengths (sp := .io) (hio (hspace hcode))

/-- The read data of a well-formed request's answer at once (R52). -/
theorem fill_of_not_illFormed {s : State} {r : HostRequest} (h : ¬ IllFormed s r) : r.decode.fill = atOnceData r := by
  simp only [Request.fill, atOnceData, HostRequest.kind_decode, HostRequest.length_decode, kindOfCode_eq_some_iff,
    length_of_not_illFormed h, and_true]
  rfl

/-- A request that the router takes as soon as it arrives (R46). -/
theorem exec_hostRequest_ready {s : State} (hup : s.hostLink = .up) (hwait : s.waiting = []) (hroom : s.completions.length < 64)
    (r : HostRequest) : exec (.hostRequest r) s = .next (s.takeRequest r) :=
  congrArg Host.Outcome.next (State.hostArrival_ready hup hwait hroom r)

theorem State.takeRequest_illFormed {s : State} (h0 : s.claim 0 = some (windowClaim s.winsel)) {r : HostRequest}
    (h : IllFormed s r) : s.takeRequest r = s.answered (requestTag r) .malformed r.decode.fill := by
  simp only [State.takeRequest, (State.malformed_iff h0 r).mpr h, if_true]
  exact State.answer_decode s r .malformed

/-- Settles O10: validation comes first, and the data is the fill of R49. -/
theorem illFormedRequestAnsweredMalformed : Obligations.IllFormedRequestAnsweredMalformed := by
  intro s r hup hwait hroom h0 hill
  refine ⟨r.decode.fill, ?_, fun hread => ?_, fun hwrite => ?_⟩
  · rw [exec_hostRequest_ready hup hwait hroom, State.takeRequest_illFormed h0 hill]
  · simp [Request.fill, hread, kindOfCode, Space.lengths]
  · simp [Request.fill, hwrite, kindOfCode]

theorem State.tagHeld_iff {s : State} {tag : HostTag} :
    s.tagHeld tag = true ↔ ∃ k : EntryNo, ∃ e, s.entry k = some e ∧ e.owes = some tag := by
  rw [← Bool.not_eq_false, State.tagHeld_eq_false]
  simp

theorem State.takeRequest_tagHeld {s : State} (h0 : s.claim 0 = some (windowClaim s.winsel)) {r : HostRequest}
    (h : ¬ IllFormed s r) (htag : s.tagHeld (requestTag r) = true) :
    s.takeRequest r = s.answered (requestTag r) .tagBusy (atOnceData r) := by
  have hgood : s.malformed r.decode = false := Bool.eq_false_iff.mpr ((State.malformed_iff h0 r).not.mpr h)
  simp only [State.takeRequest, hgood, HostRequest.tag_decode, htag, if_true, Bool.false_eq_true, if_false,
    State.answer_decode, fill_of_not_illFormed h]

/-- What the router reads of a well-formed request past the tag check (R49, R50, R179). -/
theorem decode_of_routed {s : State} {r : HostRequest} {sp : Space} (h : Routed s r sp) :
    s.malformed r.decode = false ∧ s.tagHeld r.decode.tag = false ∧ r.decode.space = some sp ∧
      (∃ k, r.decode.kind = some k) ∧ r.decode.fill = atOnceData r := by
  obtain ⟨-, -, ⟨-, -, -, h0, htags⟩, hgood, hspace⟩ := h
  have hkind : ∃ k, kindOfCode (requestKind r) = some k :=
    Option.ne_none_iff_exists'.mp fun hnone => hgood (.inl ((kindOfCode_eq_none_iff _).mp hnone))
  exact ⟨Bool.eq_false_iff.mpr ((State.malformed_iff h0 r).not.mpr hgood), State.tagHeld_eq_false.mpr htags,
    (spaceOfCode_eq_some_iff _ _).mpr hspace, hkind, fill_of_not_illFormed hgood⟩

theorem State.takeRequest_answer {s : State} {r : HostRequest} {sp : Space} (h : Routed s r sp) {st : Status}
    (hroute : s.route sp r.address.toNat = .answer st) :
    s.takeRequest r = s.answered (requestTag r) st (atOnceData r) := by
  obtain ⟨hvalid, htag, hspace, ⟨k, hkind⟩, hfill⟩ := decode_of_routed h
  simp only [State.takeRequest, hvalid, htag, hspace, hkind, Bool.false_eq_true, if_false, HostRequest.address_decode, hroute,
    State.answer_decode, hfill]

/-- An access that would be queued finds no free place (R55). -/
theorem State.takeRequest_full {s : State} {r : HostRequest} {sp : Space} (h : Routed s r sp) {n : SlotNo} {p : Port}
    {a : Attributes} (hroute : s.route sp r.address.toNat = .queue n p a) (hfull : s.freePlace = none) :
    s.takeRequest r = s.answered (requestTag r) .busy (atOnceData r) := by
  obtain ⟨hvalid, htag, hspace, ⟨k, hkind⟩, hfill⟩ := decode_of_routed h
  simp only [State.takeRequest, hvalid, htag, hspace, hkind, Bool.false_eq_true, if_false, HostRequest.address_decode, hroute, hfull,
    State.answer_decode, hfill]

/-! ### The decision (R51) -/

/-- The status of a verdict that answers at once. -/
def Verdict.status : Verdict → Option Status
  | .answer st => some st
  | .window | .queue _ _ _ => none

theorem Verdict.status_eq_some_iff (v : Verdict) (st : Status) : v.status = some st ↔ v = .answer st := by
  cases v <;> simp [Verdict.status]

/-- A claim of a port answers at once or queues the access, by its phase and the port's state. -/
theorem phaseVerdict_of_status_none {n : SlotNo} {p : Port} {a : Attributes} {ph : Phase} {st : PortState}
    (h : (phaseVerdict n p a ph st).status = none) : phaseVerdict n p a ph st = .queue n p a := by
  cases ph with
  | live =>
    revert h
    simp only [phaseVerdict, liveVerdict]
    cases st <;> cases a.wake <;> simp [Verdict.status]
  | _ => simp [phaseVerdict, Verdict.status] at h

theorem atOnceStatus_eq (s : State) (n : SlotNo) (c : Claim) : atOnceStatus s c = (s.claimVerdict n c).status := by
  unfold atOnceStatus State.claimVerdict
  cases c.owner with
  | fixed => rfl
  | fence => rfl
  | route p a | board p k y a =>
    cases c.phase with
    | live =>
      simp only [phaseVerdict, liveVerdict]
      cases (s.port p).state with
      | sleep => cases a.wake <;> simp [Verdict.status]
      | _ => rfl
    | _ => rfl

theorem State.claimVerdict_of_queued {s : State} {c : Claim} (hfixed : c.owner ≠ .fixed) (h : atOnceStatus s c = none) (n : SlotNo) :
    ∃ p a, s.claimVerdict n c = .queue n p a ∧ c.port = some p := by
  rw [atOnceStatus_eq s n] at h
  unfold State.claimVerdict Claim.port at *
  cases howner : c.owner with
  | fixed => exact absurd howner hfixed
  | fence => simp [howner, Verdict.status] at h
  | route p a =>
    simp only [howner] at h
    exact ⟨p, a, phaseVerdict_of_status_none h, rfl⟩
  | board p k y a =>
    simp only [howner] at h
    exact ⟨p, a, phaseVerdict_of_status_none h, rfl⟩

/-- The route of an address that the claim of a slot covers. -/
theorem State.route_covered {s : State} (hlaw : OverlapLaw s) {sp : Space} {address : Nat} {n : SlotNo} {c : Claim}
    (hn : s.claim n = some c) (hc : Covers c sp address) :
    s.route sp address = if n = 0 then .window else s.claimVerdict n c := by
  simp only [State.route, State.lookup_eq_some hlaw hn hc, hn]

theorem State.route_uncovered {s : State} {sp : Space} {address : Nat}
    (h : ∀ n : SlotNo, ∀ c, s.claim n = some c → ¬ Covers c sp address) : s.route sp address = .answer .unclaimed := by
  simp only [State.route, State.lookup_eq_none h]

theorem exec_hostRequest_routed {s : State} {r : HostRequest} {sp : Space} (h : Routed s r sp) :
    exec (.hostRequest r) s = .next (s.takeRequest r) := by
  obtain ⟨-, -, ⟨hup, hwait, hroom, -⟩, -⟩ := h
  exact exec_hostRequest_ready hup hwait hroom r

/-- Settles O11: the claim that covers the address is the one that lookup finds, and its verdict is R51's. -/
theorem routerDecidesByClaimAndPort : Obligations.RouterDecidesByClaimAndPort := by
  intro s r sp h
  have ⟨⟨_, hunfixed⟩, hoverlap, _⟩ := h
  rw [exec_hostRequest_routed h]
  refine ⟨fun hnone => by rw [State.takeRequest_answer h (State.route_uncovered hnone)], fun n c hn hc => ?_⟩
  have hroute := State.route_covered hoverlap hn hc
  refine ⟨State.lookup_eq_some hoverlap hn hc, fun h0 => by rw [hroute, if_pos h0], fun h0 st hst => ?_, fun h0 hqueued => ?_⟩
  · rw [atOnceStatus_eq s n, Verdict.status_eq_some_iff] at hst
    rw [State.takeRequest_answer h (by rw [hroute, if_neg h0, hst])]
  · rw [hroute, if_neg h0]
    exact State.claimVerdict_of_queued (hunfixed n h0 c hn) hqueued n

/-- Settles O12: the tag check comes before the route, and a full table has no free place. -/
theorem heldTagAndFullTableAnswerBusy : Obligations.HeldTagAndFullTableAnswerBusy := by
  intro s r sp
  refine ⟨fun hup hwait hroom h0 hgood hheld => ?_, fun h hfull n h0 c hn hc hqueued => ?_⟩
  · rw [exec_hostRequest_ready hup hwait hroom, State.takeRequest_tagHeld h0 hgood (State.tagHeld_iff.mpr hheld)]
  · have ⟨⟨_, hunfixed⟩, hoverlap, _⟩ := h
    obtain ⟨p, a, hverdict, -⟩ := State.claimVerdict_of_queued (hunfixed n h0 c hn) hqueued n
    have hplace : s.freePlace = none := by
      simpa [State.freePlace, allEntries] using hfull
    have hroute : s.route sp r.address.toNat = .queue n p a := by
      rw [State.route_covered hoverlap hn hc, if_neg h0, hverdict]
    rw [exec_hostRequest_routed h, State.takeRequest_full h hroute hplace]

/-! ### Pieces (R58) -/

theorem Entry.pieceWidth_narrow {e : Entry} (h : e.width < e.length) : e.pieceWidth = e.width :=
  if_pos h

theorem Entry.pieceWidth_wide {e : Entry} (h : e.length ≤ e.width) : e.pieceWidth = e.length :=
  if_neg (Nat.not_lt.mpr h)

theorem pieceCount_narrow {length width : Nat} (h : width < length) : pieceCount length width = length / width :=
  if_pos h

theorem pieceCount_wide {length width : Nat} (h : length ≤ width) : pieceCount length width = 1 :=
  if_neg (Nat.not_lt.mpr h)

theorem Entry.pieceCount_mul_pieceWidth {e : Entry} {i j : Nat} (hl : e.length = 2 ^ i) (hw : e.width = 2 ^ j) :
    pieceCount e.length e.width * e.pieceWidth = e.length := by
  rcases Nat.lt_or_ge e.width e.length with h | h
  · rw [pieceCount_narrow h, Entry.pieceWidth_narrow h]
    refine Nat.div_mul_cancel ?_
    rw [hl, hw] at h ⊢
    exact Nat.pow_dvd_pow 2 ((Nat.pow_lt_pow_iff_right (by decide)).mp h).le
  · rw [pieceCount_wide h, Entry.pieceWidth_wide h, Nat.one_mul]

/-- The pieces of `w` elements each, in order, are the first of the list. -/
theorem flatMap_range_chunks {α : Type} (l : List α) (w n : Nat) :
    ((List.range n).flatMap fun k => (l.drop (k * w)).take w) = l.take (n * w) := by
  induction n with
  | zero => simp
  | succ n ih => rw [List.range_succ, List.flatMap_append, ih, List.flatMap_singleton, Nat.succ_mul, List.take_add]

/-- Settles O14: the count times the width is the length, and the rest follows from it. -/
theorem piecesDivideAccess : Obligations.PiecesDivideAccess := by
  intro e i j hl hw haddress
  have htotal := Entry.pieceCount_mul_pieceWidth hl hw
  refine ⟨fun h => ⟨pieceCount_narrow h, Entry.pieceWidth_narrow h⟩, fun h => ⟨pieceCount_wide h, Entry.pieceWidth_wide h⟩, htotal,
    fun k hk => ⟨rfl, ?_, fun hdata => ⟨rfl, ?_, ?_⟩⟩⟩
  · have hdvd : e.pieceWidth ∣ e.address :=
      (Dvd.intro_left _ htotal).trans (Nat.dvd_of_mod_eq_zero haddress)
    exact Nat.mod_eq_zero_of_dvd (Nat.dvd_add hdvd (Nat.dvd_mul_left _ _))
  · have hlast : (k + 1) * e.pieceWidth ≤ e.data.length := by
      rw [hdata, ← htotal]
      exact Nat.mul_le_mul_right _ hk
    rw [Nat.succ_mul] at hlast
    simp only [Entry.pieceData, List.length_take, List.length_drop]
    omega
  · calc (List.range (pieceCount e.length e.width)).flatMap e.pieceData
        = e.data.take (pieceCount e.length e.width * e.pieceWidth) := flatMap_range_chunks _ _ _
      _ = e.data := by rw [htotal, ← hdata, List.take_length]

end Sys2Proof.Machine
end

section
/-! PROOFS. The management window: what a read returns and what each word shows, the writes of the command record, the flags and the
mask, the issue write that finds the slot BUSY; and the issue of a piece. -/

namespace Sys2Proof.Machine

open Sys2Proof

/-! ### Reading (R59, R60) -/

theorem State.windowStart_eq {s : State} (h0 : s.claim 0 = some (windowClaim s.winsel)) : s.windowStart = windowBase s.winsel := by
  simp [State.windowStart, h0, windowClaim]

/-- A request for at most 8 bytes of the window is well formed (R49). -/
theorem not_illFormed_windowRead {s : State} {r : HostRequest} {offset : Nat} (hkind : requestKind r = 1)
    (hspace : requestSpace r = 1) (hlength : requestLength r ∈ [1, 2, 4, 8]) (hdata : r.data = [])
    (haddress : r.address.toNat = windowBase s.winsel + offset) (haligned : offset % requestLength r = 0) : ¬ IllFormed s r := by
  have hbase : windowBase s.winsel % 8 = 0 := by simp [windowBase]; omega
  have hmod : r.address.toNat % requestLength r = 0 := by
    rw [haddress]
    simp only [List.mem_cons, List.not_mem_nil, or_false] at hlength
    rcases hlength with h | h | h | h <;> rw [h] at haligned ⊢ <;> omega
  simp only [List.mem_cons, List.not_mem_nil, or_false] at hlength
  simp [IllFormed, hkind, hspace, hdata, hmod]
  omega

theorem State.windowLoad_decode {s : State} {r : HostRequest} {offset : Nat}
    (h0 : s.claim 0 = some (windowClaim s.winsel)) (haddress : r.address.toNat = windowBase s.winsel + offset) :
    s.windowLoad (r.decode.address - s.windowStart) r.decode.length = s.windowLoad offset (requestLength r) := by
  rw [State.windowStart_eq h0, HostRequest.address_decode, haddress, Nat.add_sub_cancel_left]
  rfl

/-- Settles O15: the request is well formed and its address is in slot 0. -/
theorem windowReadReturnsRegisterBytes : Obligations.WindowReadReturnsRegisterBytes := by
  intro s r offset hready hkind hspace hlength hdata hoffset haddress haligned
  have hgood := not_illFormed_windowRead hkind hspace hlength hdata haddress haligned
  obtain ⟨hup, hwait, hroom, h0, htags⟩ := hready
  have hvalid : s.malformed r.decode = false := Bool.eq_false_iff.mpr ((State.malformed_iff h0 r).not.mpr hgood)
  have hlook : s.lookup .mem r.address.toNat = some 0 := State.lookup_window h0 (by omega) (by omega)
  have hread : s.takeRequest r = s.serveWindow r.decode .read := by
    simp only [State.takeRequest, hvalid, HostRequest.tag_decode, State.tagHeld_eq_false.mpr htags, Bool.false_eq_true, if_false,
      HostRequest.kind_decode, HostRequest.space_decode, hkind, hspace, kindOfCode, spaceOfCode, HostRequest.address_decode,
      State.route, hlook, if_true]
  rw [exec_hostRequest_ready hup hwait hroom, hread, State.serveWindow, State.windowLoad_decode h0 haddress]
  rfl

/-! ### The map (section 10.6, R116, R152, R176, R183) -/

theorem registerAt_commandWord (i : Fin 5) : registerAt (0x040 + 4 * i.val) = .commandWord i := by
  revert i; decide

theorem registerAt_portFlags (p : Port) : registerAt (0x110 + 4 * p.val) = .portFlags p := by
  revert p; decide

theorem registerAt_portStatus (p : Port) :
    registerAt (0x200 + 0x10 * p.val) = .portStatus p 0 ∧ registerAt (0x204 + 0x10 * p.val) = .portStatus p 1 ∧
      registerAt (0x208 + 0x10 * p.val) = .portStatus p 2 ∧ registerAt (0x20C + 0x10 * p.val) = .portStatus p 3 := by
  revert p; decide

theorem State.getLsbD_maskWord (s : State) (b : Nat) :
    s.maskWord.getLsbD b =
      if b < 3 then s.maskGlobal.getLsbD b else if 8 ≤ b ∧ b < 20 then s.maskPort.getLsbD (b - 8) else false := by
  simp only [State.maskWord, BitVec.getLsbD_or, BitVec.getLsbD_setWidth, BitVec.getLsbD_shiftLeft]
  split_ifs with h1 h2
  · simp [show b < 32 by omega, show b < 8 by omega]
  · simp [BitVec.getLsbD_of_ge s.maskGlobal b (by omega), show b < 32 by omega, show ¬ b < 8 by omega, show b - 8 < 32 by omega]
  · have hglobal := BitVec.getLsbD_of_ge s.maskGlobal b (by omega)
    by_cases hlow : b < 8
    · simp [hglobal, hlow]
    · simp [hglobal, BitVec.getLsbD_of_ge s.maskPort (b - 8) (by omega)]

theorem State.noticeWord_none {s : State} (h : ∀ p : Port, (s.port p).notice = none) : s.noticeWord = 0 := by
  have hfind : (allPorts.find? fun p => (s.port p).notice.isSome) = none := by simp [h]
  simp only [State.noticeWord, hfind]

theorem State.noticeWord_some {s : State} {p : Port} {code : Byte} (hp : (s.port p).notice = some code)
    (hlow : ∀ q : Port, q < p → (s.port q).notice = none) :
    s.noticeWord = BitVec.ofNat 32 (code.toNat + p.val * 0x100 + 0x80000000) := by
  have hfind : (allPorts.find? fun q => (s.port q).notice.isSome) = some p := by
    rw [allPorts, ← Fin.find?_eq_find?_finRange, Fin.find?_eq_some_iff]
    exact ⟨by simp [hp], fun q hq => by simp [hlow q hq]⟩
  simp only [State.noticeWord, hfind, hp, Option.getD_some]
  rfl

/-- The offsets of the words that section 10.6 assigns and that may read other than zero, the rows of the ports left out. -/
def shownOffsets : List Nat :=
  [0x000, 0x004, 0x040, 0x044, 0x048, 0x04C, 0x050, 0x058, 0x060, 0x064, 0x068, 0x06C, 0x070, 0x100, 0x104, 0x140, 0x300, 0x304,
    0x308, 0x310, 0x314, 0x318, 0x31C]

theorem registerAt_unassigned {offset : Nat} (h : offset ∉ shownOffsets) (hissue : offset ≠ 0x054) (hack : offset ≠ 0x144)
    (hflags : offset < 0x110 ∨ 0x130 ≤ offset) (hstatus : offset < 0x200 ∨ 0x280 ≤ offset) :
    registerAt offset = .unassigned := by
  have hnoFlags : ¬ (0x110 ≤ offset ∧ offset < 0x130) := by omega
  have hnoStatus : ¬ (0x200 ≤ offset ∧ offset < 0x280) := by omega
  unfold registerAt
  split
  case h_26 => rw [if_neg hnoFlags, if_neg hnoStatus]
  all_goals simp [shownOffsets] at h hissue hack

/-- The two write-only registers and every word that is not assigned read zero. -/
theorem State.readRegister_of_not_shown (s : State) {offset : Nat} (h : offset ∉ shownOffsets)
    (hflags : offset < 0x110 ∨ 0x130 ≤ offset) (hstatus : offset < 0x200 ∨ 0x280 ≤ offset) :
    s.readRegister (registerAt offset) = 0 := by
  by_cases hissue : offset = 0x054
  · rw [hissue, registerAt_issue.1]
    rfl
  · by_cases hack : offset = 0x144
    · rw [hack, registerAt_noticeAcknowledge]
      rfl
    · rw [registerAt_unassigned h hissue hack hflags hstatus]
      rfl

theorem PortRecord.statusWord_zero (x : PortRecord) :
    x.statusWord 0 = BitVec.ofNat 32 (x.state.code + x.credit * 0x100 + (if x.holdTimer.isSome then 0x10000 else 0) +
      (if x.identity.isSome then 0x20000 else 0)) := by
  simp [PortRecord.statusWord, wordOf, markBit]

/-- Settles O16: each assigned offset names its register, and every other offset names none that shows anything. -/
theorem windowMapShowsState : Obligations.WindowMapShowsState := by
  intro s word
  refine ⟨rfl, rfl, rfl, rfl, rfl, rfl, rfl, rfl, ?_, rfl, rfl, rfl, rfl, rfl, rfl, s.getLsbD_maskWord, fun p => ?_,
    fun h => State.noticeWord_none h, fun p code hp hlow => State.noticeWord_some hp hlow, rfl, fun p => ?_,
    rfl, rfl, rfl, rfl, rfl, rfl, rfl, fun k _ hk hflags hstatus => s.readRegister_of_not_shown hk hflags hstatus⟩
  · change wordOf s.slotState.code = _
    cases s.slotState <;> rfl
  · exact congrArg s.readRegister (registerAt_portFlags p)
  · obtain ⟨h0, h1, h2, h3⟩ := registerAt_portStatus p
    exact ⟨(congrArg s.readRegister h0).trans (PortRecord.statusWord_zero _), congrArg s.readRegister h1,
      congrArg s.readRegister h2, congrArg s.readRegister h3⟩

/-! ### The bits of a lane (R59, R61) -/

theorem getLsbD_laneMask (offset length : Nat) {b : Nat} (hb : b < 32) :
    (laneMask offset length).getLsbD b = decide (8 * (offset % 4) ≤ b ∧ b < 8 * (offset % 4) + 8 * length) := by
  rw [laneMask, wordOf, BitVec.getLsbD_ofNat, Nat.testBit_mul_two_pow, Nat.testBit_two_pow_sub_one, Bool.eq_iff_iff]
  simp only [Bool.and_eq_true, decide_eq_true_eq]
  omega

/-- The word whose low bytes are the ones that a lane writes. -/
def laneWord : WordLane → Word
  | .byte _ v => v.setWidth 32
  | .half _ v => v.setWidth 32
  | .word v => v

theorem wordOfBytes_half (v : BitVec 16) : wordOfBytes [v.setWidth 8, (v >>> 8).setWidth 8] = v.setWidth 32 := by
  apply BitVec.eq_of_getLsbD_eq
  intro b hb
  simp only [wordOfBytes, BitVec.getLsbD_or, BitVec.getLsbD_setWidth, BitVec.getLsbD_shiftLeft, BitVec.getLsbD_ushiftRight]
  by_cases hlow : b < 8
  · simp [hb, hlow]
  · have hsum : 8 + (b - 8) = b := by omega
    by_cases hhigh : b < 16
    · simp [hb, hlow, hsum, show b - 8 < 8 by omega, show b - 8 < 32 by omega]
    · simp [hlow, hsum, BitVec.getLsbD_of_ge v b (by omega)]

theorem wordOfBytes_laneBytes (l : WordLane) : wordOfBytes l.bytes = laneWord l := by
  cases l with
  | byte i v => simp [WordLane.bytes, laneWord, wordOfBytes]
  | half i v => exact wordOfBytes_half v
  | word v => exact wordOfBytes_wordBytes v

/-- The bits that a lane addresses are those of its bytes' places in the word. -/
theorem laneBit_eq (l : WordLane) {b : Nat} (hb : b < 32) :
    laneBit l b =
      if 8 * l.offset ≤ b ∧ b < 8 * l.offset + 8 * l.bytes.length then some ((laneWord l).getLsbD (b - 8 * l.offset)) else none := by
  cases l with
  | byte i v =>
    simp only [laneBit, WordLane.offset, WordLane.bytes, laneWord, List.length_singleton, Nat.mul_one]
    refine if_congr Iff.rfl ?_ rfl
    simp [show b - 8 * i.val < 32 by omega]
  | half i v =>
    have hplace : 8 * (2 * i.val) = 16 * i.val := by omega
    simp only [laneBit, WordLane.offset, WordLane.bytes, laneWord, List.length_cons, List.length_nil, hplace]
    refine if_congr Iff.rfl ?_ rfl
    simp [show b - 16 * i.val < 32 by omega]
  | word v => simp [laneBit, WordLane.offset, WordLane.bytes, laneWord, wordBytes, hb]

theorem WordLane.offset_mod (l : WordLane) : l.offset % 4 = l.offset := by
  have hend := WordLane.offset_lt l
  rcases WordLane.bytes_length l with h | h | h | h <;> omega

theorem getLsbD_laneMask_lane (l : WordLane) {b : Nat} (hb : b < 32) :
    (laneMask l.offset l.bytes.length).getLsbD b = (laneBit l b).isSome := by
  rw [getLsbD_laneMask _ _ hb, laneBit_eq l hb, WordLane.offset_mod l]
  split
  next h => simp [h]
  next h => simp only [h, decide_false, Option.isSome_none]

/-- What a lane writes at a bit that it addresses. -/
theorem getLsbD_laneValue_lane {l : WordLane} {b : Nat} (hb : b < 32) {v : Bool} (h : laneBit l b = some v) :
    (laneValue l.offset l.bytes).getLsbD b = v := by
  rw [laneBit_eq l hb, Option.ite_none_right_eq_some, Option.some.injEq] at h
  obtain ⟨⟨hplace, -⟩, hv⟩ := h
  rw [laneValue, wordOfBytes_laneBytes, WordLane.offset_mod l, BitVec.getLsbD_shiftLeft, hv]
  simp [hb, hplace]

/-- The word that a lane is merged into (R61). -/
def laneOver (l : WordLane) (old : Word) : Word :=
  mergeBytes old (laneMask l.offset l.bytes.length) (laneValue l.offset l.bytes)

/-- The bits that a lane writes with 1 (R171). -/
def laneOnes (l : WordLane) : Word :=
  laneValue l.offset l.bytes &&& laneMask l.offset l.bytes.length

theorem overwritten_laneOver (l : WordLane) (old : Word) : Overwritten old (laneOver l old) l := by
  intro b hb
  simp only [laneOver, mergeBytes, BitVec.getLsbD_or, BitVec.getLsbD_and, BitVec.getLsbD_not, getLsbD_laneMask_lane l hb]
  cases h : laneBit l b with
  | none => simp [hb]
  | some v => simp [getLsbD_laneValue_lane hb h]

theorem getLsbD_laneOnes (l : WordLane) {b : Nat} (hb : b < 32) : (laneOnes l).getLsbD b = decide (laneBit l b = some true) := by
  simp only [laneOnes, BitVec.getLsbD_and, getLsbD_laneMask_lane l hb]
  cases h : laneBit l b with
  | none => simp
  | some v => simp [getLsbD_laneValue_lane hb h]

/-! ### WINDOW_WRITE (R61, R150) -/

theorem exec_windowWrite_lane {s : State} {tag : HostTag} (h : HostReady s tag) {word : Nat} (hword : word % 4 = 0)
    (hlt : word < 0x1000) (l : WordLane) :
    exec (.windowWrite tag (BitVec.ofNat 12 (word + l.offset)) l.bytes) s = .next
      ((s.writeRegister (registerAt word) (laneMask l.offset l.bytes.length) (laneValue l.offset l.bytes)).answered tag .ok []) := by
  have hoffset : (BitVec.ofNat 12 (word + l.offset)).toNat = word + l.offset := by
    have hin := WordLane.offset_mod l
    rw [BitVec.toNat_ofNat]
    omega
  change Host.Outcome.next (s.hostWindowWrite tag (BitVec.ofNat 12 (word + l.offset)).toNat l.bytes) = _
  rw [hoffset, State.hostWindowWrite_lane h hword hlt l]

/-- An 8-byte write acts on its lower word and then on its higher (R61). -/
theorem State.windowStore_eight (s : State) (offset : Nat) (v u : Word) :
    s.windowStore offset (wordBytes v ++ wordBytes u) =
      (s.writeRegister (registerAt offset) 0xFFFFFFFF v).writeRegister (registerAt (offset + 4)) 0xFFFFFFFF u := by
  have hlength : ¬ (wordBytes v ++ wordBytes u).length ≤ 4 := by simp [wordBytes]
  have hlow : (wordBytes v ++ wordBytes u).take 4 = wordBytes v := by simp [wordBytes]
  have hhigh : (wordBytes v ++ wordBytes u).drop 4 = wordBytes u := by simp [wordBytes]
  rw [State.windowStore, if_neg hlength, hlow, hhigh, wordOfBytes_wordBytes, wordOfBytes_wordBytes]

/-- A register that a write changes nothing of (R61, R149). -/
def Register.readOnly : Register → Bool
  | .commandWord _ | .issue | .globalFlags | .mask | .portFlags _ | .noticeAcknowledge => false
  | .partCode | .revision | .slotState | .resultWord _ | .noticeResponder | .portStatus _ _ | .completionTimeout | .dozeIdleTime
  | .realignLimit | .memFirst | .memLast | .ioFirst | .ioLast | .unassigned => true

theorem State.writeRegister_readOnly (s : State) {r : Register} (h : r.readOnly = true) (m v : Word) :
    s.writeRegister r m v = s := by
  cases r with
  | commandWord | issue | globalFlags | mask | portFlags | noticeAcknowledge => simp [Register.readOnly] at h
  | _ => rfl

theorem readOnly_of_ignoresWrites {offset : Nat} (h : ignoresWrites offset) : (registerAt (offset / 4 * 4)).readOnly = true := by
  unfold ignoresWrites at h
  generalize offset / 4 * 4 = word at h ⊢
  obtain ⟨hrecord, hglobal, hmask, hflags, hack⟩ := h
  have hnoFlags : ¬ (0x110 ≤ word ∧ word < 0x130) := by omega
  unfold registerAt
  split
  case h_26 =>
    rw [if_neg hnoFlags]
    split <;> rfl
  all_goals simp [Register.readOnly] at hrecord hglobal hmask hack ⊢

/-- A write to words that ignore it changes nothing (R61). -/
theorem State.windowStore_ignored (s : State) {offset : Nat} {data : List Byte} (hlength : windowLength data.length)
    (haligned : offset % data.length = 0) (hfirst : ignoresWrites offset) (hlast : ignoresWrites (offset + data.length - 1)) :
    s.windowStore offset data = s := by
  have hlow := readOnly_of_ignoresWrites hfirst
  unfold State.windowStore
  split
  next => exact s.writeRegister_readOnly hlow _ _
  next hlong =>
    have height : data.length = 8 := by
      rcases hlength with h | h | h | h <;> omega
    rw [height] at haligned hlast
    have hhigh := readOnly_of_ignoresWrites hlast
    rw [show (offset + 8 - 1) / 4 * 4 = offset + 4 by omega] at hhigh
    rw [show offset / 4 * 4 = offset by omega] at hlow
    rw [s.writeRegister_readOnly hlow, s.writeRegister_readOnly hhigh]

/-- Settles O17: a lane of the record, both words of eight bytes, and the words that ignore a write. -/
theorem windowWriteStoresRecordBytes : Obligations.WindowWriteStoresRecordBytes := by
  intro s tag hready
  refine ⟨fun i l => ⟨laneOver l (s.command.get i), overwritten_laneOver l _, ?_⟩, fun offset v u haligned => ?_,
    fun offset data hlength haligned hfirst hlast => ?_⟩
  · rw [exec_windowWrite_lane hready (by omega) (by omega) l, registerAt_commandWord]
    rfl
  · have hstore := State.hostWindowWrite_ready hready (offset := offset.toNat) (data := wordBytes v ++ wordBytes u)
      (.inr (.inr (.inr rfl))) haligned offset.isLt
    rw [State.windowStore_eight] at hstore
    exact congrArg Host.Outcome.next hstore
  · have hwindow : windowLength data.length := by simpa [windowLength] using hlength
    have hstore := State.hostWindowWrite_ready hready hwindow haligned offset.isLt
    rw [State.windowStore_ignored s hwindow haligned hfirst hlast] at hstore
    exact congrArg Host.Outcome.next hstore

/-! ### FLAG_CLEAR and MASK_WRITE (R171, R172) -/

theorem getLsbD_and_not_ones {w : Nat} (flags : BitVec w) (l : WordLane) {b : Nat} (hw : w ≤ 32) (hb : b < w) :
    (flags &&& ~~~((laneOnes l).setWidth w)).getLsbD b = (flags.getLsbD b && decide (laneBit l b ≠ some true)) := by
  simp [hb, getLsbD_laneOnes l (Nat.lt_of_lt_of_le hb hw)]

/-- The register of a flag word (section 10.6). -/
def flagRegister : FlagWord → Register
  | .global => .globalFlags
  | .port p => .portFlags p

theorem registerAt_flagWord (f : FlagWord) : registerAt f.offset = flagRegister f := by
  cases f with
  | global => rfl
  | port p => exact registerAt_portFlags p

theorem flagWord_aligned (f : FlagWord) : f.offset % 4 = 0 ∧ f.offset < 0x1000 := by
  cases f with
  | global => decide
  | port p =>
    simp only [FlagWord.offset]
    omega

theorem exec_flagClear_ready {s : State} {tag : HostTag} (h : HostReady s tag) (f : FlagWord) (l : WordLane) :
    exec (.flagClear tag f l) s = .next ((s.writeRegister (flagRegister f) (laneMask l.offset l.bytes.length)
      (laneValue l.offset l.bytes)).answered tag .ok []) := by
  obtain ⟨hword, hlt⟩ := flagWord_aligned f
  rw [← registerAt_flagWord]
  exact congrArg Host.Outcome.next (State.hostWindowWrite_lane h hword hlt l)

/-- Settles O18: the two kinds of flag word are cleared by the ones of the lane. -/
theorem flagClearClearsFlagsWrittenOne : Obligations.FlagClearClearsFlagsWrittenOne := by
  intro s tag l hready
  refine ⟨⟨_, fun b hb => getLsbD_and_not_ones s.globalFlags l (by decide) hb, ?_⟩,
    fun p => ⟨_, fun b hb => getLsbD_and_not_ones (s.port p).flags l (by decide) hb, ?_⟩⟩
  · exact exec_flagClear_ready hready .global l
  · exact exec_flagClear_ready hready (.port p) l

theorem exec_maskWrite_ready {s : State} {tag : HostTag} (h : HostReady s tag) (l : WordLane) :
    exec (.maskWrite tag l) s = .next ((s.writeMask (laneOver l s.maskWord)).answered tag .ok []) :=
  congrArg Host.Outcome.next (State.hostWindowWrite_lane h (word := 0x104) (by decide) (by decide) l)

/-- Settles O19: the lane is written over the mask word, whose marks are then taken apart again. -/
theorem maskWriteReplacesMarks : Obligations.MaskWriteReplacesMarks := by
  intro s tag l hready
  have hover := overwritten_laneOver l s.maskWord
  refine ⟨(laneOver l s.maskWord).setWidth 3, (laneOver l s.maskWord >>> 8).setWidth 12, fun b hb => ?_, fun b hb => ?_,
    exec_maskWrite_ready hready l⟩
  · rw [BitVec.getLsbD_setWidth, hover b (by omega), s.getLsbD_maskWord]
    simp [hb]
  · rw [BitVec.getLsbD_setWidth, BitVec.getLsbD_ushiftRight, hover (8 + b) (by omega), s.getLsbD_maskWord]
    simp [hb, show ¬ 8 + b < 3 by omega, show 8 + b < 20 by omega]

/-! ### An issue write while the slot is BUSY (R153) -/

theorem exec_issueRowOf (c : Option HostCommand) (tag : HostTag) (w : IssueWrite) (s : State) :
    exec (issueRowOf c tag w) s = .next (s.issueRow c tag w) := by
  cases c with
  | none => rfl
  | some c => cases c <;> rfl

theorem State.issue_busy {s : State} (h : s.slotState = .busy) : s.issue = s.raiseGlobal .cmdOverrun := by
  unfold State.issue
  rw [h]

/-- Settles O21: the row does not matter, and the issue of a BUSY slot only raises the flag. -/
theorem issueWhileBusyRaisesOverrun : Obligations.IssueWhileBusyRaisesOverrun := by
  intro s tag w c hready hbusy
  rw [exec_issueRowOf, State.issueRow_ready hready w (.inl hbusy), State.issue_busy (by exact hbusy)]
  rfl

/-! ### PIECE_ISSUE (R68, R70 to R72, R81) -/

theorem PortRecord.freeTag_eq_some {x : PortRecord} {t : PieceTag} (h : LowestFreeTag x t) : x.freeTag = some t := by
  obtain ⟨hcredit, hfree, hlow⟩ := h
  rw [PortRecord.freeTag, allTags, ← Fin.find?_eq_find?_finRange, Fin.find?_eq_some_iff]
  exact ⟨by simp only [hcredit, hfree, decide_true, Bool.not_false, Bool.and_self],
    fun u hu => by simp only [hlow u hu, Bool.not_true, Bool.and_false]⟩

theorem PortRecord.freeTag_eq_none {x : PortRecord} (h : NoFreeTag x) : x.freeTag = none := by
  rw [PortRecord.freeTag, List.find?_eq_none]
  intro u _
  simpa using h u

theorem execPieceIssue_head {s : State} {p : Port} {k : EntryNo} {rest : List EntryNo} {e : Entry} {t : PieceTag}
    (hrun : (s.port p).state = .run) (hshake : (s.port p).handshake = .none) (hlist : (s.port p).issueList = k :: rest)
    (he : s.entry k = some e) (ht : LowestFreeTag (s.port p) t) :
    execPieceIssue p s = .next (s.issuePiece p k e t) := by
  rw [execPieceIssue, if_pos ⟨hrun, hshake⟩]
  simp only [hlist, PortRecord.freeTag_eq_some ht, he]

theorem State.issuePiece_eq {s : State} {p : Port} {k : EntryNo} {rest : List EntryNo} (hlist : (s.port p).issueList = k :: rest)
    (e : Entry) (t : PieceTag) :
    s.issuePiece p k e t = (s.setEntry k (some (e.issueNext t s.completionTimeout))).setPort p
      (s.sentRecord
        { s.port p with
          tagsInUse := (s.port p).tagsInUse.set t.val true
          issueList := if e.issued + 1 < e.pieces.length then k :: rest else rest.filter fun j => decide (j ≠ k) }
        (.access t e.kind e.space (e.pieceAddress e.issued) e.pieceWidth (e.pieceData e.issued))) := by
  have hrest : ((k :: rest).filter fun j => j != k) = rest.filter fun j => decide (j ≠ k) := by
    rw [List.filter_cons_of_neg (by simp)]
    exact List.filter_congr fun j _ => by simp [bne, Bool.beq_eq_decide_eq]
  simp only [State.issuePiece, State.transmit_eq, State.modifyPort_eq_setPort, State.setPort_setPort, State.port_setPort_self,
    State.port_setEntry, hlist, hrest]
  rfl

theorem execPieceIssue_idle {s : State} {p : Port}
    (h : (s.port p).state ≠ .run ∨ (s.port p).handshake ≠ .none ∨ (s.port p).issueList = [] ∨ NoFreeTag (s.port p)) :
    execPieceIssue p s = .next s := by
  unfold execPieceIssue
  split
  next hready =>
    have hnothing : (s.port p).issueList = [] ∨ NoFreeTag (s.port p) := by simpa [hready] using h
    rcases hnothing with hempty | hnone
    · rw [hempty]
    · rw [PortRecord.freeTag_eq_none hnone]
      cases (s.port p).issueList <;> rfl
  next => rfl

/-- Settles O46: one lemma for the issue and one for the cases in which there is none. -/
theorem pieceIssueSendsAccess : Obligations.PieceIssueSendsAccess := by
  intro s p x
  refine ⟨fun k rest e t hrun hshake hlist he ht => ?_, execPieceIssue_idle⟩
  exact (execPieceIssue_head hrun hshake hlist he ht).trans (congrArg Host.Outcome.next (State.issuePiece_eq hlist e t))

end Sys2Proof.Machine
end

section
/-! PROOFS. The end of entries. The model ends the entries that an event reaches one by one, in ascending place, and each of them may
settle its claim, wake its port and end the running command. Here that walk is shown to end in `State.afterEnd`: whatever it does, it
writes the parts that an `Ending` holds, and one more entry adds to each of them what the closed form says. -/

namespace Sys2Proof.Machine

open Sys2Proof

/-! ### What the end of entries writes -/

/-- The parts of the state that the end of entries of one port writes: the two tables, the completion list, the port's record, and the
slot whose completed drain ends the running command. -/
@[ext] structure Ending where
  entries : Vector (Option Entry) 32
  completions : List Completion
  claims : Vector (Option Claim) 64
  record : PortRecord
  report : Option SlotNo

/-- The running command ends DONE with the slot in result word 0 (R155). -/
def State.reporting (s : State) : Option SlotNo → State
  | none => s
  | some n => s.concluded 1 (BitVec.ofNat 32 n.val) 0 0 0

def State.write (s : State) (p : Port) (w : Ending) : State :=
  State.reporting
    (State.portBecomes { s with entries := w.entries, completions := w.completions, claims := w.claims } p w.record) w.report

theorem State.attnFollows_write (s : State) (p : Port) (w : Ending) : AttnFollows (s.write p w) := by
  obtain ⟨_, _, _, _, report⟩ := w
  cases report <;> rfl

@[simp] theorem State.port_write_self (s : State) (p : Port) (w : Ending) : (s.write p w).port p = w.record := by
  obtain ⟨_, _, _, x, report⟩ := w
  cases report with
  | none => exact State.port_portBecomes_self _ p x
  | some n => exact State.port_portBecomes_self _ p x

theorem State.entry_write (s : State) (p : Port) (w : Ending) (k : EntryNo) : (s.write p w).entry k = w.entries[k] := by
  obtain ⟨_, _, _, _, report⟩ := w
  cases report <;> rfl

theorem State.claim_write (s : State) (p : Port) (w : Ending) (n : SlotNo) : (s.write p w).claim n = w.claims[n] := by
  obtain ⟨_, _, _, _, report⟩ := w
  cases report <;> rfl

theorem State.setClaim_write (s : State) (p : Port) (w : Ending) (n : SlotNo) (c : Option Claim) :
    (s.write p w).setClaim n c = s.write p { w with claims := w.claims.set n.val c } := by
  obtain ⟨_, _, _, _, report⟩ := w
  cases report <;> rfl

theorem State.setEntry_write (s : State) (p : Port) (w : Ending) (k : EntryNo) (e : Option Entry) :
    (s.write p w).setEntry k e = s.write p { w with entries := w.entries.set k.val e } := by
  obtain ⟨_, _, _, _, report⟩ := w
  cases report <;> rfl

theorem State.handOver_write (s : State) (p : Port) (w : Ending) (c : Completion) :
    (s.write p w).handOver c = s.write p { w with completions := w.completions ++ [c] } := by
  obtain ⟨_, _, _, _, report⟩ := w
  cases report <;> rfl

/-- Where ATTN follows already, a record of the same flags leaves it so. -/
theorem State.setPort_eq_portBecomes {s : State} (h : AttnFollows s) {p : Port} {x : PortRecord} (hx : x.flags = (s.port p).flags) :
    s.setPort p x = s.portBecomes p x := by
  have hself : s.portBecomes p (s.port p) = s := by
    rw [State.portBecomes, State.setPort_port, State.driveAttn, ← h]
  rw [← State.setPort_portBecomes s p (s.port p) x hx, hself]

theorem State.portBecomes_write (s : State) (p : Port) (w : Ending) (x : PortRecord) :
    (s.write p w).portBecomes p x = s.write p { w with record := x } := by
  obtain ⟨E, K, C, y, report⟩ := w
  have hagain := State.portBecomes_portBecomes { s with entries := E, completions := K, claims := C } p y x
  cases report with
  | none => exact hagain
  | some n => exact congrArg (fun t : State => t.concluded 1 (BitVec.ofNat 32 n.val) 0 0 0) hagain

theorem State.setPort_write (s : State) (p : Port) (w : Ending) {x : PortRecord} (hx : x.flags = w.record.flags) :
    (s.write p w).setPort p x = s.write p { w with record := x } := by
  rw [State.setPort_eq_portBecomes (s.attnFollows_write p w) (by rw [hx, State.port_write_self]), State.portBecomes_write]

/-! ### What the end of entries takes from a port's record -/

/-- The record after places leave the issue list, tags are freed, board claims are counted out and flags are raised. -/
def PortRecord.freeing (x : PortRecord) (gone : EntryNo → Bool) (held : PieceTag → Bool) (count : Nat) (marks : BitVec 12) :
    PortRecord :=
  { x with
    issueList := x.issueList.filter fun k => !gone k
    tagsInUse := Vector.ofFn fun t => x.tagsInUse[t] && !held t
    claimCount := x.claimCount - count
    flags := x.flags ||| marks }

@[simp] theorem PortRecord.state_freeing (x : PortRecord) (gone : EntryNo → Bool) (held : PieceTag → Bool) (count : Nat)
    (marks : BitVec 12) : (x.freeing gone held count marks).state = x.state :=
  rfl

theorem PortRecord.freeing_freeing (x : PortRecord) (gone gone' : EntryNo → Bool) (held held' : PieceTag → Bool)
    (count count' : Nat) (marks marks' : BitVec 12) :
    (x.freeing gone held count marks).freeing gone' held' count' marks' =
      x.freeing (fun k => gone k || gone' k) (fun t => held t || held' t) (count + count') (marks ||| marks') := by
  simp [PortRecord.freeing, List.filter_filter, Nat.sub_sub, BitVec.or_assoc, Bool.and_assoc, Bool.and_comm, Bool.and_left_comm]

/-- The record after messages become owed, which wakes a port in DOZE or SLEEP (R36, R111, R128). -/
def PortRecord.taking (x : PortRecord) (l : List OwedMessage) : PortRecord :=
  if x.state.linked = true ∧ l ≠ [] then (x.owingAll l).afterWakeCause else x

@[simp] theorem PortRecord.taking_nil (x : PortRecord) : x.taking [] = x := by
  simp [PortRecord.taking]

/-- Nothing that the end of entries takes from a record bears on the wake. -/
theorem PortRecord.afterWakeCause_freeing (x : PortRecord) (gone : EntryNo → Bool) (held : PieceTag → Bool) (count : Nat)
    (marks : BitVec 12) :
    (x.freeing gone held count marks).afterWakeCause = x.afterWakeCause.freeing gone held count marks := by
  obtain ⟨_, state⟩ := x
  cases state <;> rfl

theorem PortRecord.taking_freeing (x : PortRecord) (l : List OwedMessage) (gone : EntryNo → Bool) (held : PieceTag → Bool)
    (count : Nat) (marks : BitVec 12) :
    (x.freeing gone held count marks).taking l = (x.taking l).freeing gone held count marks := by
  rw [PortRecord.taking, PortRecord.taking, PortRecord.state_freeing]
  split
  · rw [← PortRecord.afterWakeCause_freeing]
    rfl
  · rfl

theorem PortRecord.afterWakeCause_owingAll (x : PortRecord) (l : List OwedMessage) :
    (x.owingAll l).afterWakeCause = x.afterWakeCause.owingAll l := by
  obtain ⟨_, state⟩ := x
  cases state <;> rfl

/-- A wake that has started starts no other, and it keeps the port linked. -/
theorem PortRecord.afterWakeCause_afterWakeCause (x : PortRecord) : x.afterWakeCause.afterWakeCause = x.afterWakeCause := by
  obtain ⟨_, state⟩ := x
  cases state <;> rfl

theorem PortRecord.linked_afterWakeCause (x : PortRecord) : x.afterWakeCause.state.linked = x.state.linked := by
  obtain ⟨_, state⟩ := x
  cases state <;> rfl

theorem PortRecord.flags_afterWakeCause (x : PortRecord) : x.afterWakeCause.flags = x.flags := by
  obtain ⟨_, state⟩ := x
  cases state <;> rfl

/-- Messages owed one after another are owed together: the first of them wakes the port. -/
theorem PortRecord.taking_taking (x : PortRecord) (l k : List OwedMessage) : (x.taking l).taking k = x.taking (l ++ k) := by
  rcases eq_or_ne l [] with rfl | hl
  · simp
  rcases eq_or_ne k [] with rfl | hk
  · simp
  by_cases hx : x.state.linked = true
  · simp [PortRecord.taking, hx, hl, hk, PortRecord.linked_afterWakeCause, PortRecord.afterWakeCause_owingAll,
      PortRecord.afterWakeCause_afterWakeCause, PortRecord.owingAll_owingAll]
  · simp [PortRecord.taking, hx]

theorem State.owe_write (s : State) (p : Port) (w : Ending) (m : OwedMessage) :
    (s.write p w).owe p m = s.write p { w with record := w.record.taking [m] } := by
  by_cases h : w.record.state.linked = true
  · rw [State.owe_linked (by simpa using h), State.port_write_self, PortRecord.taking, if_pos ⟨h, by simp⟩]
    exact s.setPort_write p w (PortRecord.flags_afterWakeCause _)
  · rw [State.owe_unlinked (by simpa using h), PortRecord.taking, if_neg (by simp [h])]

/-- The end of the running command, of which the first report takes the slot (R155). -/
theorem State.reportEnd_write (s : State) (p : Port) (w : Ending) (c : HostCommand) (n : SlotNo) :
    (s.write p w).reportEnd c n.val .done n.val =
      s.write p { w with report := w.report <|> bif s.running c n.val then some n else none } := by
  obtain ⟨E, K, C, x, report⟩ := w
  cases report with
  | some m => exact State.reportEnd_idle rfl _ _
  | none =>
    by_cases h : s.running c n.val = true
    · rw [h]
      exact State.reportEnd_running (by exact h) _ _
    · have hnot : s.running c n.val = false := Bool.eq_false_iff.mpr h
      rw [hnot]
      exact State.reportEnd_idle (by exact hnot) _ _

/-! ### An entry whose open pieces take one status (R77) -/

/-- The outcome of a piece after an event that gives `st` to the pieces that have not ended. -/
def PieceOutcome.closing (st : Status) : PieceOutcome → PieceOutcome
  | .ended x => .ended x
  | .notIssued | .outstanding _ => .ended st

theorem Entry.note_frame (e : Entry) (k : Nat) (st : Status) :
    e.note k st = { e with status := (e.note k st).status, setBy := (e.note k st).setBy } := by
  unfold Entry.note
  split
  · rfl
  · split
    · rfl
    · split <;> rfl

theorem Entry.endIfOpen_frame (st : Status) (e : Entry) (k : Nat) :
    e.endIfOpen st k = { e with
      pieces := (e.endIfOpen st k).pieces, status := (e.endIfOpen st k).status, setBy := (e.endIfOpen st k).setBy } := by
  have hpiece : e.endPiece k st = { e with
      pieces := (e.endPiece k st).pieces, status := (e.endPiece k st).status, setBy := (e.endPiece k st).setBy } := by
    unfold Entry.endPiece
    rw [Entry.note_frame]
  unfold Entry.endIfOpen
  split
  case h_2 | h_3 => exact hpiece
  all_goals rfl

/-- An event that ends an entry writes its outcomes and its status alone. -/
theorem Entry.endAll_frame (e : Entry) (st : Status) :
    e.endAll st = { e with
      pieces := (e.endAll st).pieces, status := (e.endAll st).status, setBy := (e.endAll st).setBy } := by
  unfold Entry.endAll
  generalize List.range e.pieces.length = ks
  induction ks generalizing e with
  | nil => rfl
  | cons k ks ih =>
    rw [List.foldl_cons, ih, Entry.endIfOpen_frame]

theorem Entry.pieces_note (e : Entry) (k : Nat) (st : Status) : (e.note k st).pieces = e.pieces := by
  rw [Entry.note_frame]

theorem Entry.getElem?_pieces_endIfOpen (e : Entry) (st : Status) (k i : Nat) :
    (e.endIfOpen st k).pieces[i]? = if i = k then e.pieces[i]?.map (PieceOutcome.closing st) else e.pieces[i]? := by
  have hopen (o : PieceOutcome) (ho : e.pieces[k]? = some o) (hc : o.closing st = .ended st) :
      (e.endPiece k st).pieces[i]? = if i = k then e.pieces[i]?.map (PieceOutcome.closing st) else e.pieces[i]? := by
    rw [Entry.endPiece, Entry.pieces_note, List.getElem?_set]
    by_cases hi : i = k
    · subst hi
      rw [ho, Option.map_some, hc, if_pos rfl, if_pos rfl, if_pos (List.getElem?_eq_some_iff.mp ho).1]
    · simp [hi, Ne.symm hi]
  unfold Entry.endIfOpen
  split
  next x hx =>
    split
    next hi => simp [hi, hx, PieceOutcome.closing]
    next => rfl
  next h => exact hopen _ h rfl
  next h => exact hopen _ h rfl
  next hx =>
    split
    next hi => simp [hi, hx]
    next => rfl

theorem Entry.pieces_endAll (e : Entry) (st : Status) : (e.endAll st).pieces = e.pieces.map (PieceOutcome.closing st) := by
  have hwalk (k i : Nat) : ((List.range k).foldl (Entry.endIfOpen st) e).pieces[i]? =
      if i < k then e.pieces[i]?.map (PieceOutcome.closing st) else e.pieces[i]? := by
    induction k with
    | zero => simp
    | succ k ih =>
      rw [List.range_succ, List.foldl_concat, Entry.getElem?_pieces_endIfOpen, ih]
      rcases Nat.lt_trichotomy i k with h | h | h
      · simp [h, h.ne, Nat.lt_succ_of_lt h]
      · simp [h]
      · simp [h.ne', Nat.not_lt.mpr h.le, Nat.not_lt.mpr (Nat.succ_le_of_lt h)]
  refine List.ext_getElem? fun i => ?_
  rw [Entry.endAll, hwalk, List.getElem?_map]
  split
  · rfl
  next h => simp [List.getElem?_eq_none (Nat.not_lt.mp h)]

theorem StatusSoFarLaw.of_none {e : Entry} (h : StatusSoFarLaw e) (hset : e.setBy = none) :
    e.status = .ok ∧ ∀ o ∈ e.pieces, o.closed → o = .ended .ok := by
  simpa only [StatusSoFarLaw, hset] using h

theorem StatusSoFarLaw.of_some {e : Entry} (h : StatusSoFarLaw e) {j : Nat} (hset : e.setBy = some j) :
    e.status ≠ .ok ∧ e.pieces[j]? = some (.ended e.status) ∧ ∀ o ∈ e.pieces.take j, o.closed → o = .ended .ok := by
  simpa only [StatusSoFarLaw, hset] using h

/-- Where the pieces before place `k` that have ended ended OK, the status of piece `k` is the status so far. -/
theorem statusSoFar_first {e : Entry} {k : Nat} {st : Status} (hlt : k < e.pieces.length) (hst : st ≠ .ok)
    (hbefore : ∀ o ∈ e.pieces.take k, o.closed → o = .ended .ok) :
    StatusSoFarLaw { e with pieces := e.pieces.set k (.ended st), status := st, setBy := some k } := by
  refine ⟨hst, by simp [hlt], fun o ho hc => hbefore o ?_ hc⟩
  rwa [List.take_set_of_le le_rfl] at ho

/-- The piece that sets the status so far is not an open one. -/
theorem setBy_ne_of_open {e : Entry} (h : StatusSoFarLaw e) {j k : Nat} (hj : e.setBy = some j) {o : PieceOutcome}
    (hk : e.pieces[k]? = some o) (hopen : ¬ o.closed) : k ≠ j := by
  rintro rfl
  obtain ⟨-, ho, -⟩ := h.of_some hj
  rw [hk] at ho
  exact hopen (congrArg PieceOutcome.isEnded (Option.some.inj ho))

/-- An open piece that ends OK, or after the piece that sets the status so far, leaves the status right. -/
theorem statusSoFar_set {e : Entry} (h : StatusSoFarLaw e) {k : Nat} {o : PieceOutcome} (hk : e.pieces[k]? = some o)
    (hopen : ¬ o.closed) {st : Status} (hst : st = .ok ∨ ∃ j, e.setBy = some j ∧ j ≤ k) :
    StatusSoFarLaw { e with pieces := e.pieces.set k (.ended st) } := by
  have hne (j : Nat) := setBy_ne_of_open h (j := j) (hk := hk) (hopen := hopen)
  unfold StatusSoFarLaw
  dsimp only
  split
  next hnone =>
    obtain ⟨hok, hclosed⟩ := h.of_none hnone
    obtain rfl : st = .ok := hst.resolve_right (by simp [hnone])
    refine ⟨hok, fun o ho hc => ?_⟩
    rcases List.mem_or_eq_of_mem_set ho with ho | rfl
    · exact hclosed o ho hc
    · rfl
  next j hsome =>
    obtain ⟨hbad, hj, hclosed⟩ := h.of_some hsome
    refine ⟨hbad, by rwa [List.getElem?_set_ne (hne j hsome)], fun o ho hc => ?_⟩
    rcases hst with rfl | ⟨i, hi, hik⟩
    · rw [List.take_set] at ho
      rcases List.mem_or_eq_of_mem_set ho with ho | rfl
      · exact hclosed o ho hc
      · rfl
    · obtain rfl : i = j := Option.some.inj (hi.symm.trans hsome)
      rw [List.take_set_of_le hik] at ho
      exact hclosed o ho hc

/-- The status so far stays right when an open piece ends. -/
theorem statusSoFar_endPiece {e : Entry} (h : StatusSoFarLaw e) {k : Nat} {o : PieceOutcome} (hk : e.pieces[k]? = some o)
    (hopen : ¬ o.closed) (st : Status) : StatusSoFarLaw (e.endPiece k st) := by
  have hlt : k < e.pieces.length := (List.getElem?_eq_some_iff.mp hk).1
  unfold Entry.endPiece Entry.note
  split
  next hst => exact statusSoFar_set h hk hopen (.inl hst)
  next hst =>
    split
    next hnone =>
      obtain ⟨-, hclosed⟩ := h.of_none hnone
      exact statusSoFar_first hlt hst fun o ho => hclosed o (List.mem_of_mem_take ho)
    next j hsome =>
      split
      next hlow =>
        obtain ⟨-, -, hbefore⟩ := h.of_some hsome
        exact statusSoFar_first hlt hst fun o ho => hbefore o (List.take_subset_take_left e.pieces hlow.le ho)
      next hhigh => exact statusSoFar_set h hk hopen (.inr ⟨j, hsome, Nat.not_lt.mp hhigh⟩)

theorem statusSoFar_endIfOpen {e : Entry} (h : StatusSoFarLaw e) (st : Status) (k : Nat) : StatusSoFarLaw (e.endIfOpen st k) := by
  unfold Entry.endIfOpen
  split
  next => exact h
  next hk => exact statusSoFar_endPiece h hk (by simp [PieceOutcome.isEnded]) st
  next hk => exact statusSoFar_endPiece h hk (by simp [PieceOutcome.isEnded]) st
  next => exact h

theorem statusSoFar_endAll {e : Entry} (h : StatusSoFarLaw e) (st : Status) : StatusSoFarLaw (e.endAll st) := by
  unfold Entry.endAll
  generalize List.range e.pieces.length = ks
  induction ks generalizing e with
  | nil => exact h
  | cons k ks ih => exact ih (statusSoFar_endIfOpen h st k)

/-- The status of a piece that has ended, `st` for any other. -/
def PieceOutcome.statusOr (st : Status) : PieceOutcome → Status
  | .ended x => x
  | .notIssued | .outstanding _ => st

theorem Entry.statusWith_eq (e : Entry) (st : Status) :
    e.statusWith st = ((e.pieces.map (PieceOutcome.statusOr st)).find? (· ≠ .ok)).getD .ok := by
  have hfun : PieceOutcome.statusOr st = fun o =>
      match o with
      | .ended x => x
      | .notIssued | .outstanding _ => st := by
    funext o
    cases o <;> rfl
  rw [hfun]
  rfl

/-- Once every piece has ended, the status so far is the entry's status. -/
theorem Entry.statusWith_of_closed {e : Entry} (h : StatusSoFarLaw e) (hclosed : ∀ o ∈ e.pieces, o.closed) (st : Status) :
    e.statusWith st = e.status := by
  have hok {o : PieceOutcome} (ho : o = .ended .ok) : ¬ o.statusOr st ≠ .ok := by simp [ho, PieceOutcome.statusOr]
  rw [Entry.statusWith_eq]
  cases hset : e.setBy with
  | none =>
    obtain ⟨hstatus, hall⟩ := h.of_none hset
    have hnone : (e.pieces.map (PieceOutcome.statusOr st)).find? (· ≠ .ok) = none := by
      simp only [List.find?_map, Option.map_eq_none_iff, List.find?_eq_none]
      intro o ho
      simpa using hok (hall o ho (hclosed o ho))
    rw [hnone, hstatus]
    rfl
  | some j =>
    obtain ⟨hbad, hj, hbefore⟩ := h.of_some hset
    obtain ⟨hlt, hget⟩ := List.getElem?_eq_some_iff.mp hj
    have hfirst : (e.pieces.map (PieceOutcome.statusOr st)).find? (· ≠ .ok) = some e.status := by
      rw [← List.take_append_drop j e.pieces, List.drop_eq_getElem_cons hlt, hget, List.map_append, List.find?_append,
        List.map_cons, List.find?_cons_of_pos (by simp [PieceOutcome.statusOr, hbad])]
      have hnone : ((e.pieces.take j).map (PieceOutcome.statusOr st)).find? (· ≠ .ok) = none := by
        simp only [List.find?_map, Option.map_eq_none_iff, List.find?_eq_none]
        intro o ho
        simpa using hok (hbefore o ho (hclosed o (List.mem_of_mem_take ho)))
      rw [hnone]
      rfl
    rw [hfirst]
    rfl

/-- The status an event leaves an entry with (R77). -/
theorem Entry.status_endAll {e : Entry} (h : StatusSoFarLaw e) (st : Status) : (e.endAll st).status = e.statusWith st := by
  have hclosed : ∀ o ∈ (e.endAll st).pieces, o.closed := by
    intro o ho
    rw [Entry.pieces_endAll] at ho
    obtain ⟨d, -, rfl⟩ := List.mem_map.mp ho
    cases d <;> rfl
  have hsame : (e.endAll st).statusWith st = e.statusWith st := by
    rw [Entry.statusWith_eq, Entry.statusWith_eq, Entry.pieces_endAll, List.map_map]
    congr 3
    funext o
    cases o <;> rfl
  rw [← hsame, Entry.statusWith_of_closed (statusSoFar_endAll h st) hclosed]

/-! ### One entry ends (R5, R9, R11, R79) -/

theorem PortRecord.freeing_marks (x : PortRecord) (count : Nat) (marks : BitVec 12) :
    x.freeing (fun _ => false) (fun _ => false) count marks =
      { x with claimCount := x.claimCount - count, flags := x.flags ||| marks } := by
  simp [PortRecord.freeing]

theorem PortRecord.freeing_nothing (x : PortRecord) : x.freeing (fun _ => false) (fun _ => false) 0 0#12 = x := by
  simp [PortRecord.freeing_marks]

theorem State.raisePort_write (s : State) (p : Port) (w : Ending) (f : PortFlag) :
    (s.write p w).raisePort p f =
      s.write p { w with record := w.record.freeing (fun _ => false) (fun _ => false) 0 f.mark } := by
  rw [State.raisePort_eq, State.portBecomes_write, State.port_write_self, PortRecord.freeing_marks]
  rfl

theorem State.countOut_write (s : State) (p : Port) (w : Ending) :
    (s.write p w).countOut p =
      s.write p { w with record := w.record.freeing (fun _ => false) (fun _ => false) 1 0x040 } := by
  rw [State.countOut, State.modifyPort_eq_setPort, State.port_write_self, State.setPort_write s p w (by rfl), State.raisePort_write,
    PortRecord.freeing_marks, PortRecord.freeing_marks]
  rfl

/-- The claim of a slot whose last access has ended: a reshape commits, a drain leaves the slot FREE (R9, R11). -/
def Claim.settled (c : Claim) : Option Claim :=
  match c.phase with
  | .reshaping b z => some { c with base := b, size := z, phase := .live, inFlight := 0 }
  | .live | .draining _ | .orphaned => none

/-- The settling claim counts its board out (R11). -/
def Claim.freesBoard (c : Claim) : Bool :=
  c.isBoard && c.settled.isNone

/-- The completed drain of the slot ends the running command (R155, R159, R160). -/
def Claim.endsCommand (c : Claim) (s : State) (n : SlotNo) : Bool :=
  match c.phase with
  | .draining .revoke => s.running .revoke n.val
  | .draining .hostRetire => s.running .hostRetire n.val
  | .draining .release | .reshaping _ _ | .live | .orphaned => false

/-- What the settling of the claim of a slot writes. -/
def Ending.settle (w : Ending) (s : State) (n : SlotNo) (c : Claim) : Ending :=
  { w with
    claims := w.claims.set n.val c.settled
    record := (w.record.freeing (fun _ => false) (fun _ => false) c.freesBoard.toNat
      (if c.isBoard then 0x040 else 0)).taking (c.settlingMessage n).toList
    report := w.report <|> bif c.endsCommand s n then some n else none }

theorem Claim.owner_of_port {c : Claim} {p : Port} (h : c.port = some p) :
    (∃ k y a, c.owner = .board p k y a) ∨ ∃ a, c.owner = .route p a := by
  unfold Claim.port at h
  split at h
  next q k y a howner =>
    obtain rfl := Option.some.inj h
    exact .inl ⟨k, y, a, howner⟩
  next q a howner =>
    obtain rfl := Option.some.inj h
    exact .inr ⟨a, howner⟩
  next => exact absurd h (by simp)
  next => exact absurd h (by simp)

/-- A reshape that commits: its board, if it has one, is owed the GRANT and told by CLAIM_CHANGE (R9). -/
theorem State.commitReshape_write (s : State) {p : Port} (w : Ending) (n : SlotNo) {c : Claim} {b z : Nat} (hport : c.port = some p)
    (hflight : c.inFlight = 0) (hphase : c.phase = .reshaping b z) :
    (s.write p w).commitReshape n c b z = s.write p (w.settle s n c) := by
  obtain ⟨owner, space, base, size, phase, inFlight⟩ := c
  obtain rfl : inFlight = 0 := hflight
  obtain rfl : phase = .reshaping b z := hphase
  rcases Claim.owner_of_port hport with ⟨k, y, a, rfl⟩ | ⟨a, rfl⟩
  · simp only [State.commitReshape, State.setClaim_write, State.owe_write, State.raisePort_write, ← PortRecord.taking_freeing]
    simp [Ending.settle, Claim.freesBoard, Claim.settled, Claim.isBoard, Claim.settlingMessage, Claim.endsCommand, PortFlag.mark]
  · simp only [State.commitReshape, State.setClaim_write]
    simp [Ending.settle, Claim.freesBoard, Claim.settled, Claim.isBoard, Claim.settlingMessage, Claim.endsCommand,
      PortRecord.freeing_nothing]

/-- A drain that completes: the retire cause says who is told, and a board claim is counted out (R11). -/
theorem State.completeDrain_write (s : State) {p : Port} (w : Ending) (n : SlotNo) {c : Claim} {cause : RetireCause}
    (hport : c.port = some p) (hphase : c.phase = .draining cause) :
    (s.write p w).completeDrain n c cause = s.write p (w.settle s n c) := by
  obtain ⟨owner, space, base, size, phase, inFlight⟩ := c
  obtain rfl : phase = .draining cause := hphase
  rcases Claim.owner_of_port hport with ⟨k, y, a, rfl⟩ | ⟨a, rfl⟩
  · cases cause <;>
      simp only [State.completeDrain, State.setClaim_write, State.owe_write, State.reportEnd_write, State.countOut_write,
        ← PortRecord.taking_freeing] <;>
      simp [Ending.settle, Claim.freesBoard, Claim.settled, Claim.isBoard, Claim.settlingMessage, Claim.endsCommand]
  · cases cause <;>
      simp only [State.completeDrain, State.setClaim_write, State.reportEnd_write] <;>
      simp [Ending.settle, Claim.freesBoard, Claim.settled, Claim.isBoard, Claim.settlingMessage, Claim.endsCommand,
        PortRecord.freeing_nothing]

theorem State.settle_write (s : State) {p : Port} {w : Ending} {n : SlotNo} {c : Claim} (hc : w.claims[n] = some c)
    (hport : c.port = some p) (hflight : c.inFlight = 0) (hmotion : c.phase.inMotion = true) :
    (s.write p w).settle n = s.write p (w.settle s n c) := by
  have hclaim : (s.write p w).claim n = some c := (State.claim_write s p w n).trans hc
  simp only [State.settle, hclaim, hflight, if_true]
  cases hphase : c.phase with
  | reshaping b z => exact State.commitReshape_write s w n hport hflight hphase
  | draining cause => exact State.completeDrain_write s w n hport hphase
  | live | orphaned => simp [hphase, Phase.inMotion] at hmotion

theorem State.settle_write_idle (s : State) {p : Port} {w : Ending} {n : SlotNo} {c : Claim} (hc : w.claims[n] = some c)
    (hidle : ¬ (c.phase.inMotion = true ∧ c.inFlight = 0)) : (s.write p w).settle n = s.write p w := by
  have hclaim : (s.write p w).claim n = some c := (State.claim_write s p w n).trans hc
  simp only [State.settle, hclaim]
  split
  next hflight =>
    split
    next hphase => exact absurd ⟨by simp [hphase, Phase.inMotion], hflight⟩ hidle
    next hphase => exact absurd ⟨by simp [hphase, Phase.inMotion], hflight⟩ hidle
    all_goals rfl
  next => rfl

/-- What the freeing of an entry of a slot writes: the claim's count falls by one, and with the last access the claim settles (R5). -/
def Ending.decrement (w : Ending) (s : State) (n : SlotNo) (c : Claim) : Ending :=
  let w1 : Ending := { w with claims := w.claims.set n.val (some { c with inFlight := c.inFlight - 1 }) }
  if c.phase.inMotion = true ∧ c.inFlight - 1 = 0 then w1.settle s n { c with inFlight := c.inFlight - 1 } else w1

theorem State.decrement_write (s : State) {p : Port} {w : Ending} {n : SlotNo} {c : Claim} (hc : w.claims[n] = some c)
    (hport : c.port = some p) : (s.write p w).decrement n = s.write p (w.decrement s n c) := by
  have hclaim : (s.write p w).claim n = some c := (State.claim_write s p w n).trans hc
  have hset : (w.claims.set n.val (some { c with inFlight := c.inFlight - 1 }))[n] =
      some { c with inFlight := c.inFlight - 1 } := by simp
  simp only [State.decrement, hclaim, State.setClaim_write, Ending.decrement]
  split
  next h =>
    obtain ⟨hmotion, hflight⟩ := h
    exact State.settle_write s hset hport hflight hmotion
  next h => exact State.settle_write_idle s hset h

theorem getElem_releaseTags (tags : Vector Bool 8) (pieces : List PieceOutcome) (t : PieceTag) :
    (releaseTags tags pieces)[t] = (tags[t] && !pieces.contains (.outstanding t)) := by
  unfold releaseTags
  induction pieces generalizing tags with
  | nil => simp
  | cons o pieces ih =>
    rw [List.foldl_cons, ih]
    cases o with
    | outstanding k =>
      by_cases hk : t = k
      · subst hk; simp
      · simp [hk, Fin.val_ne_iff.mpr (Ne.symm hk)]
    | notIssued | ended => simp

theorem releaseTags_eq (tags : Vector Bool 8) (pieces : List PieceOutcome) :
    releaseTags tags pieces = Vector.ofFn fun t => tags[t] && !pieces.contains (.outstanding t) := by
  ext i hi
  simpa using getElem_releaseTags tags pieces ⟨i, hi⟩

@[simp] theorem Entry.posted_endAll (e : Entry) (st : Status) : (e.endAll st).posted = e.posted := by rw [e.endAll_frame st]
@[simp] theorem Entry.port_endAll (e : Entry) (st : Status) : (e.endAll st).port = e.port := by rw [e.endAll_frame st]
@[simp] theorem Entry.slot_endAll (e : Entry) (st : Status) : (e.endAll st).slot = e.slot := by rw [e.endAll_frame st]

@[simp] theorem Entry.readData_endAll (e : Entry) (st : Status) : (e.endAll st).readData = e.readData := by
  rw [e.endAll_frame st]
  rfl

/-- The completion of an entry that an event ends, where an answer is owed (R78, R79). -/
def Entry.completion (e : Entry) (st : Status) : Option Completion :=
  e.owes.map fun tag => ⟨tag, e.statusWith st, e.readData⟩

/-- The entry is a posted write that the event ends other than OK (R80). -/
def Entry.losesPosted (e : Entry) (st : Status) : Bool :=
  e.posted && e.owes.isNone && decide (e.statusWith st ≠ .ok)

/-- What the end of the entry in a place writes, where its slot holds the claim (R79). -/
def Ending.finish (w : Ending) (s : State) (n : EntryNo) (e : Entry) (st : Status) (c : Claim) : Ending :=
  Ending.decrement
    { w with
      entries := w.entries.set n.val none
      completions := w.completions ++ (e.completion st).toList
      record := w.record.freeing (fun k => k == n) (fun t => e.pieces.contains (.outstanding t)) 0
        (if e.losesPosted st then 0x100 else 0) }
    s e.slot c

theorem State.freeEntry_write (s : State) {p : Port} {w : Ending} {n : EntryNo} {e : Entry} {c : Claim} (hport : e.port = p)
    (hc : w.claims[e.slot] = some c) (hclaim : c.port = some p) :
    (s.write p w).freeEntry n e = s.write p (Ending.decrement
      { w with
        entries := w.entries.set n.val none
        record := w.record.freeing (fun k => k == n) (fun _ => false) 0 0 } s e.slot c) := by
  have hrecord : w.record.freeing (fun k => k == n) (fun _ => false) 0 0 =
      { w.record with issueList := w.record.issueList.filter (· != n) } := by
    simp [PortRecord.freeing, bne]
  rw [State.freeEntry, hport, State.modifyPort_eq_setPort, State.port_write_self, State.setPort_write s p w (by rfl),
    State.setEntry_write, ← hrecord]
  exact State.decrement_write s hc hclaim

/-- An event ends an entry of a written state: what it writes is the entry's own end. -/
theorem State.endEntry_write (s : State) {p : Port} {w : Ending} (n : EntryNo) {e : Entry} {c : Claim} (he : StatusSoFarLaw e)
    (hport : e.port = p) (hc : w.claims[e.slot] = some c) (hclaim : c.port = some p) (st : Status) :
    (s.write p w).endEntry n e st = s.write p (w.finish s n e st c) := by
  have htags : ({ w.record with tagsInUse := releaseTags w.record.tagsInUse e.pieces } : PortRecord) =
      w.record.freeing (fun _ => false) (fun t => e.pieces.contains (.outstanding t)) 0 0 := by
    simp [PortRecord.freeing, releaseTags_eq]
  rw [State.endEntry, State.modifyPort_eq_setPort, hport, State.port_write_self, State.setPort_write s p w (by rfl), htags,
    State.finishEntry]
  simp only [Entry.owes_endAll, Entry.posted_endAll, Entry.port_endAll, Entry.readData_endAll, Entry.status_endAll he, hport]
  have hfree (v : Ending) (hv : v.claims = w.claims) := State.freeEntry_write s (w := v) (n := n) (e := e.endAll st) (c := c)
    (by simpa using hport) (by simpa [hv] using hc) hclaim
  cases howes : e.owes with
  | some tag =>
    simp only [State.handOver_write]
    rw [hfree]
    · simp [Ending.finish, Entry.completion, Entry.losesPosted, howes, PortRecord.freeing_freeing]
    · rfl
  | none =>
    have hlost : e.losesPosted st = (e.posted && decide (e.statusWith st ≠ .ok)) := by
      simp [Entry.losesPosted, howes]
    simp only [← hlost]
    split
    next hyes =>
      rw [State.raisePort_write, hfree]
      · simp [Ending.finish, Entry.completion, howes, hyes, PortRecord.freeing_freeing, PortFlag.mark]
      · rfl
    next hno =>
      rw [hfree]
      · simp [Ending.finish, Entry.completion, howes, hno, PortRecord.freeing_freeing]
      · rfl

/-! ### Lists of places and slots of which one changes -/

theorem countP_add_toNat {α : Type} [DecidableEq α] {f g : α → Bool} {n : α} {l : List α} (hl : l.Nodup) (hn : n ∈ l)
    (hoff : ∀ k, k ≠ n → g k = f k) (hf : f n = false) : l.countP g = l.countP f + (g n).toNat := by
  induction l with
  | nil => simp at hn
  | cons m l ih =>
    obtain ⟨hm, hl⟩ := List.nodup_cons.mp hl
    by_cases h : m = n
    · subst h
      have hrest : l.countP g = l.countP f :=
        List.countP_congr fun k hk => by rw [hoff k (ne_of_mem_of_not_mem hk hm)]
      cases hg : g m <;> simp [hrest, hf, hg]
    · have := ih hl ((List.mem_cons.mp hn).resolve_left (Ne.symm h))
      simp only [List.countP_cons, hoff m h]
      omega

theorem any_or_of_off {α : Type} [DecidableEq α] {f g : α → Bool} {n : α} {l : List α} (hn : n ∈ l)
    (hoff : ∀ k, k ≠ n → g k = f k) (hf : f n = false) : l.any g = (l.any f || g n) := by
  rw [Bool.eq_iff_iff]
  simp only [Bool.or_eq_true, List.any_eq_true]
  constructor
  · rintro ⟨k, hk, hg⟩
    by_cases h : k = n
    · exact .inr (h ▸ hg)
    · exact .inl ⟨k, hk, hoff k h ▸ hg⟩
  · rintro (⟨k, hk, hfk⟩ | hg)
    · have hne : k ≠ n := by
        rintro rfl
        simp [hf] at hfk
      exact ⟨k, hk, (hoff k hne).trans hfk⟩
    · exact ⟨n, hn, hg⟩

/-- A search that may find one more element, where only one can be found. -/
theorem find?_orElse_of_off {α : Type} [DecidableEq α] {f g : α → Bool} {n : α} {l : List α} (hn : n ∈ l)
    (hoff : ∀ k, k ≠ n → g k = f k) (hf : f n = false) (huniq : ∀ k, g k = true → g n = true → k = n) :
    l.find? g = (l.find? f <|> bif g n then some n else none) := by
  cases hg : g n with
  | false =>
    have hsame : g = f := by
      funext k
      by_cases h : k = n
      · rw [h, hg, hf]
      · exact hoff k h
    simp [hsame]
  | true =>
    have hnone : l.find? f = none := by
      rw [List.find?_eq_none]
      intro k _ hk
      have hne : k ≠ n := by
        rintro rfl
        simp [hf] at hk
      exact hne (huniq k ((hoff k hne).trans hk) hg)
    obtain ⟨k, hk⟩ := Option.isSome_iff_exists.mp (List.find?_isSome.mpr ⟨n, hn, hg⟩)
    rw [hk, hnone, huniq k (List.find?_some hk) hg]
    rfl

/-- What a place adds comes last, where nothing comes of the places after it. -/
theorem filterMap_append_of_off {m : Nat} {β : Type} {f g : Fin m → Option β} {n : Fin m} {l : List (Fin m)}
    (hl : l.Pairwise (· < ·)) (hn : n ∈ l) (hlow : ∀ k, k < n → g k = f k) (hf : ∀ k, n ≤ k → f k = none)
    (hg : ∀ k, n < k → g k = none) : l.filterMap g = l.filterMap f ++ (g n).toList := by
  induction l with
  | nil => simp at hn
  | cons k l ih =>
    obtain ⟨hk, hl⟩ := List.pairwise_cons.mp hl
    by_cases h : k = n
    · subst h
      have hrest : l.filterMap g = [] := List.filterMap_eq_nil_iff.mpr fun j hj => hg j (hk j hj)
      have hnone : (k :: l).filterMap f = [] := List.filterMap_eq_nil_iff.mpr fun j hj => by
        rcases List.mem_cons.mp hj with rfl | hj
        · exact hf j le_rfl
        · exact hf j (hk j hj).le
      rw [hnone, List.filterMap_cons, hrest]
      cases g k <;> rfl
    · have hmem := (List.mem_cons.mp hn).resolve_left (Ne.symm h)
      rw [List.filterMap_cons, List.filterMap_cons, hlow k (hk n hmem), ih hl hmem]
      cases f k <;> rfl

theorem mem_allEntries (k : EntryNo) : k ∈ allEntries := List.mem_finRange k

theorem nodup_allEntries : allEntries.Nodup := List.nodup_finRange 32

theorem pairwise_allEntries : allEntries.Pairwise (· < ·) := List.pairwise_lt_finRange 32

/-! ### What an event reaches -/

/-- The laws that the account of an event's entries rests on: it reads the entries and the claims alone. -/
structure Accounted (s : State) : Prop where
  inFlight : InFlightLaw s
  binding : BindingLaw s
  status : ∀ k e, s.entry k = some e → StatusSoFarLaw e

theorem State.entry_of_reached {s : State} {R : EntryNo → Entry → Bool} {k : EntryNo} {e : Entry}
    (h : s.reached R k = some e) : s.entry k = some e :=
  (Option.filter_eq_some_iff.mp h).1

theorem State.boundEntries_eq (s : State) (n : SlotNo) :
    s.boundEntries n = allEntries.countP fun k => (s.entry k).any fun e => e.slot == n := by
  refine List.countP_congr fun k _ => ?_
  cases s.entry k <;> rfl

theorem State.endedAt_le (s : State) (R : EntryNo → Entry → Bool) (n : SlotNo) : s.endedAt R n ≤ s.boundEntries n := by
  rw [State.boundEntries_eq]
  refine List.countP_mono_left fun k _ h => ?_
  obtain ⟨e, he, hslot⟩ := (Option.any_eq_true _ _).mp h
  rw [State.entry_of_reached he]
  exact hslot

theorem Accounted.inFlight_eq {s : State} (h : Accounted s) {n : SlotNo} {c : Claim} (hc : s.claim n = some c) :
    c.inFlight = s.boundEntries n := by
  have := h.inFlight n
  simpa only [hc] using this

theorem Accounted.claim_of_entry {s : State} (h : Accounted s) {k : EntryNo} {e : Entry} (he : s.entry k = some e) :
    ∃ c, s.claim e.slot = some c ∧ c.port = some e.port :=
  Option.bind_eq_some_iff.mp (h.binding k e he)

/-- `R'` reaches one entry more than `R`: the one in place `n`, after all of `R`. All of them are of port `p`. -/
structure Joins (s : State) (p : Port) (R R' : EntryNo → Entry → Bool) (n : EntryNo) (e : Entry) : Prop where
  reached : ∀ k, s.reached R' k = if k = n then some e else s.reached R k
  before : ∀ k d, s.reached R k = some d → k < n
  entry : s.entry n = some e
  port : e.port = p

namespace Joins

variable {s : State} {p : Port} {R R' : EntryNo → Entry → Bool} {n : EntryNo} {e : Entry} (h : Joins s p R R' n e)

include h

theorem reached_self : s.reached R' n = some e := by
  rw [h.reached, if_pos rfl]

theorem reached_off {k : EntryNo} (hk : k ≠ n) : s.reached R' k = s.reached R k := by
  rw [h.reached, if_neg hk]

theorem not_reached {k : EntryNo} (hk : n ≤ k) : s.reached R k = none := by
  cases hd : s.reached R k with
  | none => rfl
  | some d => exact absurd (h.before k d hd) (not_lt.mpr hk)

/-- A count, a test and a list over the entries reached, with the one that joins. -/
theorem any_reached (f : Entry → Bool) :
    (allEntries.any fun k => (s.reached R' k).any f) = ((allEntries.any fun k => (s.reached R k).any f) || f e) := by
  rw [any_or_of_off (mem_allEntries n) (fun k hk => by rw [h.reached_off hk]) (by rw [h.not_reached le_rfl]; rfl), h.reached_self]
  rfl

theorem filterMap_reached {β : Type} (f : Entry → Option β) :
    (allEntries.filterMap fun k => (s.reached R' k).bind f) =
      (allEntries.filterMap fun k => (s.reached R k).bind f) ++ (f e).toList := by
  rw [filterMap_append_of_off pairwise_allEntries (mem_allEntries n) (fun k hk => by rw [h.reached_off hk.ne])
    (fun k hk => by rw [h.not_reached hk]; rfl) (fun k hk => by rw [h.reached_off hk.ne', h.not_reached hk.le]; rfl),
    h.reached_self]
  rfl

theorem endedAt_self : s.endedAt R' e.slot = s.endedAt R e.slot + 1 := by
  rw [State.endedAt, countP_add_toNat nodup_allEntries (mem_allEntries n) (fun k hk => by rw [h.reached_off hk])
    (by rw [h.not_reached le_rfl]; rfl), h.reached_self]
  simp [State.endedAt]

theorem endedAt_off {m : SlotNo} (hm : m ≠ e.slot) : s.endedAt R' m = s.endedAt R m := by
  rw [State.endedAt, countP_add_toNat nodup_allEntries (mem_allEntries n) (fun k hk => by rw [h.reached_off hk])
    (by rw [h.not_reached le_rfl]; rfl), h.reached_self]
  simp [State.endedAt, Ne.symm hm]

theorem settling_off {m : SlotNo} (hm : m ≠ e.slot) : s.settling R' m = s.settling R m := by
  rw [State.settling, h.endedAt_off hm, State.settling]

theorem claimAfter_off {m : SlotNo} (hm : m ≠ e.slot) : s.claimAfter R' m = s.claimAfter R m := by
  rw [State.claimAfter, h.settling_off hm, h.endedAt_off hm, State.claimAfter]

/-! The slot of the entry that joins has not settled before it. -/

theorem endedAt_lt (hs : Accounted s) {c : Claim} (hc : s.claim e.slot = some c) : s.endedAt R e.slot < c.inFlight := by
  have hle := s.endedAt_le R' e.slot
  rw [hs.inFlight_eq hc]
  rw [h.endedAt_self] at hle
  omega

theorem settling_self (hs : Accounted s) : s.settling R e.slot = none := by
  obtain ⟨c, hc, -⟩ := hs.claim_of_entry h.entry
  have hlt := h.endedAt_lt hs hc
  simp [State.settling, hc, Option.filter_some, hlt.ne']

theorem claimAfter_self (hs : Accounted s) {c : Claim} (hc : s.claim e.slot = some c) :
    s.claimAfter R e.slot = some { c with inFlight := c.inFlight - s.endedAt R e.slot } := by
  rw [State.claimAfter, h.settling_self hs, hc]
  rfl

theorem settling_join (hs : Accounted s) {c : Claim} (hc : s.claim e.slot = some c) :
    s.settling R' e.slot =
      if c.phase.inMotion = true ∧ c.inFlight - s.endedAt R e.slot - 1 = 0 then some c else none := by
  have hlt := h.endedAt_lt hs hc
  have hiff : c.inFlight = s.endedAt R e.slot + 1 ↔ c.inFlight - s.endedAt R e.slot - 1 = 0 := by omega
  rw [State.settling, hc, Option.filter_some, h.endedAt_self]
  exact if_congr (by simp [hiff]) rfl rfl

end Joins

/-! ### The closed form, part by part -/

theorem State.claimAfter_of_settling {s : State} {R : EntryNo → Entry → Bool} {m : SlotNo} {c : Claim}
    (h : s.settling R m = some c) : s.claimAfter R m = c.settled := by
  rw [State.claimAfter, h]
  rfl

/-- How many board claims become FREE (R19). -/
def State.boardsFreed (s : State) (R : EntryNo → Entry → Bool) : Nat :=
  allSlots.countP fun m => (s.settling R m).any Claim.freesBoard

/-- The flags that the end of the entries raises (R9, R11, R80). -/
def State.marksRaised (s : State) (R : EntryNo → Entry → Bool) (st : Status) : BitVec 12 :=
  (if (allSlots.any fun m => (s.settling R m).any Claim.isBoard) then 0x040 else 0) |||
    if (allEntries.any fun k => (s.reached R k).any fun e => e.losesPosted st) then 0x100 else 0

theorem State.portAfterEnd_eq (s : State) (p : Port) (R : EntryNo → Entry → Bool) (st : Status) :
    s.portAfterEnd p R st =
      ((s.port p).freeing (fun k => (s.reached R k).isSome)
        (fun t => allEntries.any fun k => (s.reached R k).any fun e => e.pieces.contains (.outstanding t))
        (s.boardsFreed R) (s.marksRaised R st)).taking (s.settlingMessages R) := by
  have hfreed : (allSlots.countP fun m => (s.settling R m).any fun c => c.isBoard && (s.claimAfter R m).isNone) =
      s.boardsFreed R := by
    refine List.countP_congr fun m _ => ?_
    cases h : s.settling R m with
    | none => simp
    | some c => simp [State.claimAfter_of_settling h, Claim.freesBoard]
  rw [State.portAfterEnd, hfreed]
  simp only [PortRecord.taking, PortRecord.freeing, PortRecord.owingAll, State.marksRaised, Entry.losesPosted, ← BitVec.or_assoc]
  by_cases hlinked : (s.port p).state.linked = true
  · by_cases hmessages : s.settlingMessages R = [] <;> simp [hlinked, hmessages]
  · simp [hlinked]

theorem State.completionsOf_eq (s : State) (R : EntryNo → Entry → Bool) (st : Status) :
    s.completionsOf R st = allEntries.filterMap fun k => (s.reached R k).bind fun e => e.completion st :=
  rfl

theorem State.drainReport_eq (s : State) (R : EntryNo → Entry → Bool) :
    s.drainReport R = allSlots.find? fun m => (s.settling R m).any fun c => c.endsCommand s m :=
  rfl

/-- What an event writes that ends with `st` the entries it reaches, all of port `p`. -/
def State.endingOf (s : State) (p : Port) (R : EntryNo → Entry → Bool) (st : Status) : Ending where
  entries := Vector.ofFn fun k => if (s.reached R k).isSome then none else s.entry k
  completions := s.completions ++ s.completionsOf R st
  claims := Vector.ofFn (s.claimAfter R)
  record := s.portAfterEnd p R st
  report := s.drainReport R

theorem State.afterEnd_eq_write (s : State) (p : Port) (R : EntryNo → Entry → Bool) (st : Status) :
    s.afterEnd p R st = s.write p (s.endingOf p R st) := by
  simp only [State.afterEnd, State.write, State.endingOf]
  cases s.drainReport R <;> rfl

/-- Only one command runs (R153). -/
theorem State.running_unique {s : State} {c d : HostCommand} {m n : Nat} (hm : s.running c m = true) (hn : s.running d n = true) :
    m = n := by
  simp only [State.running, Bool.and_eq_true, beq_iff_eq] at hm hn
  obtain ⟨-, hm⟩ := hm
  obtain ⟨-, hn⟩ := hn
  exact hm.symm.trans hn

theorem Claim.endsCommand_unique {s : State} {c d : Claim} {m n : SlotNo} (hc : c.endsCommand s m = true)
    (hd : d.endsCommand s n = true) : m = n := by
  have hrunning {c : Claim} {m : SlotNo} (h : c.endsCommand s m = true) : ∃ k, s.running k m.val = true := by
    unfold Claim.endsCommand at h
    split at h
    · exact ⟨_, h⟩
    · exact ⟨_, h⟩
    all_goals exact absurd h Bool.false_ne_true
  obtain ⟨_, hm⟩ := hrunning hc
  obtain ⟨_, hn⟩ := hrunning hd
  exact Fin.ext (State.running_unique hm hn)

/-! ### One more entry ends -/

namespace Joins

variable {s : State} {p : Port} {R R' : EntryNo → Entry → Bool} {n : EntryNo} {e : Entry} (h : Joins s p R R' n e)
  (hs : Accounted s)

include h hs

theorem boardsFreed_join : s.boardsFreed R' = s.boardsFreed R + ((s.settling R' e.slot).any Claim.freesBoard).toNat :=
  countP_add_toNat nodup_allSlots (mem_allSlots e.slot) (fun m hm => by rw [h.settling_off hm]) (by rw [h.settling_self hs]; rfl)

theorem boardSettles_join :
    (allSlots.any fun m => (s.settling R' m).any Claim.isBoard) =
      ((allSlots.any fun m => (s.settling R m).any Claim.isBoard) || (s.settling R' e.slot).any Claim.isBoard) :=
  any_or_of_off (mem_allSlots e.slot) (fun m hm => by rw [h.settling_off hm]) (by rw [h.settling_self hs]; rfl)

theorem marksRaised_join (st : Status) :
    s.marksRaised R' st = s.marksRaised R st ||| ((if e.losesPosted st then 0x100 else 0) |||
      if (s.settling R' e.slot).any Claim.isBoard then 0x040 else 0) := by
  simp only [State.marksRaised, h.any_reached, h.boardSettles_join hs]
  generalize (allSlots.any fun m => (s.settling R m).any Claim.isBoard) = a
  generalize (allEntries.any fun k => (s.reached R k).any fun e => e.losesPosted st) = b
  generalize (s.settling R' e.slot).any Claim.isBoard = c
  generalize e.losesPosted st = d
  revert a b c d
  decide

theorem drainReport_join :
    s.drainReport R' = (s.drainReport R <|>
      bif (s.settling R' e.slot).any fun c => c.endsCommand s e.slot then some e.slot else none) := by
  simp only [State.drainReport_eq]
  refine find?_orElse_of_off (mem_allSlots e.slot) (fun m hm => by rw [h.settling_off hm]) (by rw [h.settling_self hs]; rfl) ?_
  intro m hm hself
  obtain ⟨c, -, hc⟩ := (Option.any_eq_true _ _).mp hm
  obtain ⟨d, -, hd⟩ := (Option.any_eq_true _ _).mp hself
  exact Claim.endsCommand_unique hc hd

omit hs in
/-- A later entry of the slot is reached, the one that joins included. -/
theorem laterOf_slot (k : EntryNo) (m : SlotNo) :
    (allEntries.any fun j => decide (k < j) && (s.reached R' j).any fun d => d.slot == m) =
      ((allEntries.any fun j => decide (k < j) && (s.reached R j).any fun d => d.slot == m) || (decide (k < n) && e.slot == m)) := by
  rw [any_or_of_off (mem_allEntries n) (fun j hj => by rw [h.reached_off hj]) (by simp [h.not_reached le_rfl]), h.reached_self]
  rfl

/-- The message of the claim that settles last comes last (R79). -/
theorem settlingMessages_join :
    s.settlingMessages R' = s.settlingMessages R ++ ((s.settling R' e.slot).bind fun c => c.settlingMessage e.slot).toList := by
  have hlast : (allEntries.any fun j => decide (n < j) && (s.reached R' j).any fun d => d.slot == e.slot) = false := by
    rw [h.laterOf_slot, Bool.or_eq_false_iff, List.any_eq_false]
    refine ⟨fun j _ hj => ?_, by simp⟩
    obtain ⟨hlt, hany⟩ := Bool.and_eq_true_iff.mp hj
    rw [h.not_reached (of_decide_eq_true hlt).le] at hany
    exact Bool.false_ne_true hany
  rw [State.settlingMessages, filterMap_append_of_off pairwise_allEntries (mem_allEntries n) (f := fun k =>
    (s.reached R k).bind fun d =>
      if allEntries.any fun j => decide (k < j) && (s.reached R j).any fun i => i.slot == d.slot then none
      else (s.settling R d.slot).bind fun c => c.settlingMessage d.slot)]
  · rw [h.reached_self, Option.bind_some, if_neg (by rw [hlast]; exact Bool.false_ne_true)]
    rfl
  · intro k hk
    rw [h.reached_off hk.ne]
    cases hd : s.reached R k with
    | none => rfl
    | some d =>
      simp only [Option.bind_some, h.laterOf_slot, hk, decide_true, Bool.true_and]
      by_cases hslot : d.slot = e.slot
      · simp [hslot, h.settling_self hs]
      · simp [Ne.symm hslot, h.settling_off hslot]
  · intro k hk
    rw [h.not_reached hk]
    rfl
  · intro k hk
    rw [h.reached_off hk.ne', h.not_reached hk.le]
    rfl

omit hs in
theorem entries_join (st : Status) :
    (s.endingOf p R st).entries.set n.val none = (s.endingOf p R' st).entries := by
  ext1 i hi
  simp only [State.endingOf, Vector.getElem_set, Vector.getElem_ofFn, h.reached]
  by_cases hin : n.val = i
  · subst hin
    simp
  · have hne : (⟨i, hi⟩ : EntryNo) ≠ n := fun hcon => hin (congrArg Fin.val hcon).symm
    simp [hin, hne]

omit hs in
theorem completions_join (st : Status) :
    (s.endingOf p R st).completions ++ (e.completion st).toList = (s.endingOf p R' st).completions := by
  simp only [State.endingOf, State.completionsOf_eq, h.filterMap_reached, List.append_assoc]

omit hs in
theorem claims_join {c : Option Claim} (hc : s.claimAfter R' e.slot = c) :
    (Vector.ofFn (s.claimAfter R)).set e.slot.val c = Vector.ofFn (s.claimAfter R') := by
  ext1 i hi
  simp only [Vector.getElem_set, Vector.getElem_ofFn]
  by_cases hin : e.slot.val = i
  · subst hin
    simp [hc]
  · have hne : (⟨i, hi⟩ : SlotNo) ≠ e.slot := fun hcon => hin (congrArg Fin.val hcon).symm
    simp [hin, h.claimAfter_off hne]

/-- The record where the entry's own end is taken from it, and then the claim that settles with it. -/
theorem record_join (st : Status) :
    (((s.endingOf p R st).record.freeing (fun k => k == n) (fun t => e.pieces.contains (.outstanding t)) 0
        (if e.losesPosted st then 0x100 else 0)).freeing (fun _ => false) (fun _ => false)
        ((s.settling R' e.slot).any Claim.freesBoard).toNat
        (if (s.settling R' e.slot).any Claim.isBoard then 0x040 else 0)).taking
        ((s.settling R' e.slot).bind fun c => c.settlingMessage e.slot).toList = (s.endingOf p R' st).record := by
  have hgone (k : EntryNo) : (s.reached R' k).isSome = ((s.reached R k).isSome || k == n) := by
    by_cases hk : k = n
    · simp [hk, h.reached_self]
    · simp [hk, h.reached_off hk]
  simp only [State.endingOf, State.portAfterEnd_eq, ← PortRecord.taking_freeing, PortRecord.freeing_freeing,
    PortRecord.taking_taking, h.settlingMessages_join hs, h.marksRaised_join hs, h.boardsFreed_join hs, h.any_reached, hgone,
    Bool.or_false, Nat.add_zero, BitVec.or_assoc]

/-- The end of the entry that joins, from what the others wrote. -/
theorem finish_join {c : Claim} (hc : s.claim e.slot = some c) (st : Status) :
    (s.endingOf p R st).finish s n e st { c with inFlight := c.inFlight - s.endedAt R e.slot } = s.endingOf p R' st := by
  have hrecord := h.record_join hs st
  have hreport := h.drainReport_join hs
  rw [Ending.finish, Ending.decrement, h.entries_join, h.completions_join]
  split
  next hsettles =>
    have hsettling : s.settling R' e.slot = some c := (h.settling_join hs hc).trans (if_pos hsettles)
    have hclaims := h.claims_join (State.claimAfter_of_settling hsettling)
    rw [hsettling] at hrecord hreport
    refine Ending.ext rfl rfl ?_ ?_ hreport.symm
    · exact (Vector.set_set ..).trans hclaims
    · exact hrecord
  next hstays =>
    have hsettling : s.settling R' e.slot = none := (h.settling_join hs hc).trans (if_neg hstays)
    rw [hsettling] at hrecord hreport
    have hclaim : s.claimAfter R' e.slot = some { c with inFlight := c.inFlight - s.endedAt R e.slot - 1 } := by
      rw [State.claimAfter, hsettling, hc, h.endedAt_self]
      rfl
    refine Ending.ext rfl rfl (h.claims_join hclaim) ?_ ?_
    · simpa [PortRecord.freeing_nothing] using hrecord
    · have hsame : s.drainReport R = s.drainReport R' := by simpa using hreport.symm
      exact hsame

end Joins

/-! ### The walk over the table ends in the closed form (R79) -/

/-- After one event has ended the entries it reaches, the end of one more. -/
theorem Joins.endEntry {s : State} {p : Port} {R R' : EntryNo → Entry → Bool} {n : EntryNo} {e : Entry}
    (h : Joins s p R R' n e) (hs : Accounted s) (st : Status) :
    (s.afterEnd p R st).endEntry n e st = s.afterEnd p R' st := by
  obtain ⟨c, hc, hport⟩ := hs.claim_of_entry h.entry
  have hclaim : (s.endingOf p R st).claims[e.slot] = some { c with inFlight := c.inFlight - s.endedAt R e.slot } := by
    simpa [State.endingOf] using h.claimAfter_self hs hc
  rw [State.afterEnd_eq_write, State.afterEnd_eq_write,
    State.endEntry_write s n (hs.status n e h.entry) h.port hclaim (hport.trans (congrArg some h.port)), h.finish_join hs hc]

/-- What an event writes depends on the entries it reaches alone. -/
theorem State.afterEnd_congr {s : State} {R R' : EntryNo → Entry → Bool} (h : ∀ k, s.reached R' k = s.reached R k) (p : Port)
    (st : Status) : s.afterEnd p R' st = s.afterEnd p R st := by
  have hreached : s.reached R' = s.reached R := funext h
  have hended : s.endedAt R' = s.endedAt R := by
    funext m
    simp only [State.endedAt, hreached]
  have hsettling : s.settling R' = s.settling R := by
    funext m
    simp only [State.settling, hended]
  have hclaim : s.claimAfter R' = s.claimAfter R := by
    funext m
    simp only [State.claimAfter, hsettling, hended]
  have hmessages : s.settlingMessages R' = s.settlingMessages R := by
    rw [State.settlingMessages, hreached, hsettling, State.settlingMessages]
  have hmarks : s.marksRaised R' st = s.marksRaised R st := by
    rw [State.marksRaised, hreached, hsettling, State.marksRaised]
  have hending : s.endingOf p R' st = s.endingOf p R st := by
    simp only [State.endingOf, State.completionsOf, State.portAfterEnd_eq, State.boardsFreed, State.drainReport, hreached,
      hsettling, hclaim, hmessages, hmarks]
  rw [State.afterEnd_eq_write, State.afterEnd_eq_write, hending]

/-- An event that reaches no entry writes what stands. -/
theorem State.afterEnd_of_none {s : State} (hattn : AttnFollows s) {R : EntryNo → Entry → Bool} (h : ∀ k, s.reached R k = none)
    (p : Port) (st : Status) : s.afterEnd p R st = s := by
  have hreached : s.reached R = fun _ => none := funext h
  have hended (m : SlotNo) : s.endedAt R m = 0 := by
    simp [State.endedAt, hreached]
  have hsettling : s.settling R = fun _ => none := by
    funext m
    simp [State.settling, hended]
  have hclaims : Vector.ofFn (s.claimAfter R) = s.claims := by
    ext1 i hi
    simp [State.claimAfter, hsettling, hended]
    rfl
  have hentries : (Vector.ofFn fun k => if (s.reached R k).isSome then none else s.entry k) = s.entries := by
    ext1 i hi
    simp [hreached]
    rfl
  have hnothing : (allEntries.any fun _ => false) = false := by
    simp
  have hrecord : s.portAfterEnd p R st = s.port p := by
    simp [hnothing, State.portAfterEnd_eq, State.settlingMessages, State.boardsFreed, State.marksRaised, hreached, hsettling,
      PortRecord.freeing_nothing]
  have hreport : s.drainReport R = none := by
    simp [State.drainReport_eq, hsettling]
  have hcompletions : s.completions ++ s.completionsOf R st = s.completions := by
    simp [State.completionsOf_eq, hreached]
  rw [State.afterEnd_eq_write, State.endingOf, hclaims, hentries, hrecord, hreport, hcompletions]
  exact (State.setPort_eq_portBecomes hattn rfl).symm.trans (State.setPort_port s p)

theorem State.entry_afterEnd (s : State) (p : Port) (R : EntryNo → Entry → Bool) (st : Status) (k : EntryNo) :
    (s.afterEnd p R st).entry k = if (s.reached R k).isSome then none else s.entry k := by
  rw [State.afterEnd_eq_write, State.entry_write]
  simp [State.endingOf]

theorem State.claim_afterEnd (s : State) (p : Port) (R : EntryNo → Entry → Bool) (st : Status) (n : SlotNo) :
    (s.afterEnd p R st).claim n = s.claimAfter R n := by
  rw [State.afterEnd_eq_write, State.claim_write]
  simp [State.endingOf]

theorem State.attnFollows_afterEnd (s : State) (p : Port) (R : EntryNo → Entry → Bool) (st : Status) :
    AttnFollows (s.afterEnd p R st) := by
  rw [State.afterEnd_eq_write]
  exact s.attnFollows_write p _

/-- The entries of an event in the places of a list. -/
def within (l : List EntryNo) (reaches : Entry → Bool) : EntryNo → Entry → Bool :=
  fun k e => decide (k ∈ l) && reaches e

theorem State.reached_within (s : State) (l : List EntryNo) (reaches : Entry → Bool) (k : EntryNo) :
    s.reached (within l reaches) k = if k ∈ l then (s.entry k).filter reaches else none := by
  rw [State.reached]
  cases s.entry k with
  | none => simp
  | some e => by_cases hk : k ∈ l <;> simp [within, hk, Option.filter_some]

/-- One step of the walk. -/
def State.endIfReached (reaches : Entry → Bool) (st : Status) (s : State) (n : EntryNo) : State :=
  ((s.entry n).filter reaches).elim s fun e => s.endEntry n e st

theorem State.endEntries_eq_foldl (s : State) (reaches : Entry → Bool) (st : Status) :
    s.endEntries reaches st = allEntries.foldl (State.endIfReached reaches st) s := by
  rw [State.endEntries]
  congr 1
  funext t n
  unfold State.endIfReached
  cases t.entry n with
  | none => rfl
  | some e => cases h : reaches e <;> simp [h, Option.filter_some]

theorem foldl_endIfReached {s : State} (hattn : AttnFollows s) (hs : Accounted s) {p : Port} {reaches : Entry → Bool}
    (hport : ∀ e, reaches e = true → e.port = p) (st : Status) {l : List EntryNo} (hl : l.Pairwise (· < ·)) :
    l.foldl (State.endIfReached reaches st) s = s.afterEnd p (within l reaches) st := by
  induction l using List.reverseRecOn with
  | nil => exact (State.afterEnd_of_none hattn (fun k => by simp [State.reached_within]) p st).symm
  | append_singleton l n ih =>
    obtain ⟨hlist, -, hbefore⟩ := List.pairwise_append.mp hl
    have hlow (k : EntryNo) (hk : k ∈ l) : k < n := hbefore k hk n (List.mem_singleton.mpr rfl)
    have hnot : n ∉ l := fun hn => lt_irrefl n (hlow n hn)
    have hentry : (s.afterEnd p (within l reaches) st).entry n = s.entry n := by
      simp [State.entry_afterEnd, State.reached_within, hnot]
    rw [List.foldl_concat, ih hlist, State.endIfReached, hentry]
    cases he : (s.entry n).filter reaches with
    | none =>
      refine (State.afterEnd_congr (fun k => ?_) p st).symm
      rw [State.reached_within, State.reached_within]
      by_cases hk : k = n
      · simp [hk, hnot, he]
      · simp [hk]
    | some e =>
      obtain ⟨hsome, hreach⟩ := Option.filter_eq_some_iff.mp he
      refine Joins.endEntry ⟨fun k => ?_, fun k d hd => ?_, hsome, hport e hreach⟩ hs st
      · rw [State.reached_within, State.reached_within]
        by_cases hk : k = n
        · simp [hk, he]
        · simp [hk]
      · rw [State.reached_within] at hd
        by_contra hk
        rw [if_neg fun hmem => hk (hlow k hmem)] at hd
        exact Option.some_ne_none d hd.symm

/-- One event that ends several entries of a port ends in the state that `State.afterEnd` writes (R79). -/
theorem State.endEntries_eq_afterEnd {s : State} (hattn : AttnFollows s) (hs : Accounted s) {p : Port} {reaches : Entry → Bool}
    (hport : ∀ e, reaches e = true → e.port = p) (st : Status) :
    s.endEntries reaches st = s.afterEnd p (fun _ => reaches) st := by
  rw [State.endEntries_eq_foldl, foldl_endIfReached hattn hs hport st pairwise_allEntries]
  refine State.afterEnd_congr (fun k => ?_) p st
  rw [State.reached_within, if_pos (mem_allEntries k)]
  rfl

/-- The end of one entry alone. -/
theorem State.endEntry_eq_afterEnd {s : State} (hattn : AttnFollows s) (hs : Accounted s) {n : EntryNo} {e : Entry}
    (he : s.entry n = some e) (st : Status) : s.endEntry n e st = s.afterEnd e.port (fun j _ => j == n) st := by
  have hnone (k : EntryNo) : s.reached (fun _ _ => false) k = none := by
    simp [State.reached]
  have hjoins : Joins s e.port (fun _ _ => false) (fun j _ => j == n) n e := by
    refine ⟨fun k => ?_, fun k d hd => ?_, he, rfl⟩
    · by_cases hk : k = n
      · subst hk
        simp [State.reached, he]
      · simp [State.reached, hk]
    · rw [hnone] at hd
      exact absurd hd.symm (Option.some_ne_none d)
  rw [← hjoins.endEntry hs st, State.afterEnd_of_none hattn hnone]

/-! ### The laws after an event -/

theorem Accounted.congr {s t : State} (h : Accounted s) (hclaims : t.claims = s.claims) (hentries : t.entries = s.entries) :
    Accounted t := by
  have hc : t.claim = s.claim := by
    funext n
    simp only [State.claim, hclaims]
  have he : t.entry = s.entry := by
    funext k
    simp only [State.entry, hentries]
  have hb : t.boundEntries = s.boundEntries := by
    funext n
    simp only [State.boundEntries, he]
  obtain ⟨hflight, hbinding, hstatus⟩ := h
  exact ⟨by simpa only [InFlightLaw, hc, hb] using hflight, by simpa only [BindingLaw, hc, he] using hbinding,
    by simpa only [he] using hstatus⟩

theorem EntriesSound.attnFollows {s : State} (h : EntriesSound s) : AttnFollows s := by
  obtain ⟨hattn, -, -⟩ := h
  exact hattn

theorem EntriesSound.accounted {s : State} (h : EntriesSound s) : Accounted s := by
  obtain ⟨-, ⟨hflight, hbinding, -⟩, -, hshape, -⟩ := h
  refine ⟨hflight, hbinding, fun k e he => ?_⟩
  obtain ⟨-, -, -, -, hstatus⟩ := hshape k e he
  exact hstatus

/-- The entries that stay, and those that an event ends, are the entries bound to the slot. -/
theorem State.boundEntries_afterEnd (s : State) (p : Port) (R : EntryNo → Entry → Bool) (st : Status) (n : SlotNo) :
    (s.afterEnd p R st).boundEntries n + s.endedAt R n = s.boundEntries n := by
  have hsplit : ∀ l : List EntryNo,
      (l.countP fun k => ((s.afterEnd p R st).entry k).any fun e => e.slot == n) +
        (l.countP fun k => (s.reached R k).any fun e => e.slot == n) =
          l.countP fun k => (s.entry k).any fun e => e.slot == n := by
    intro l
    induction l with
    | nil => rfl
    | cons k l ih =>
      simp only [List.countP_cons, State.entry_afterEnd] at ih ⊢
      cases hd : s.reached R k with
      | none =>
        simp only [Option.isSome_none, Option.any_none, Bool.false_eq_true, if_false]
        omega
      | some d =>
        rw [State.entry_of_reached hd]
        simp only [Option.isSome_some, Option.any_none, Bool.false_eq_true, if_true, if_false]
        omega
  rw [State.boundEntries_eq, State.boundEntries_eq]
  exact hsplit allEntries

theorem Claim.inFlight_of_settled {c d : Claim} (h : c.settled = some d) : d.inFlight = 0 := by
  unfold Claim.settled at h
  split at h
  · obtain rfl := Option.some.inj h
    rfl
  all_goals exact absurd h.symm (Option.some_ne_none d)

/-- The slot's claim after an event: it has settled with no access left, or it stays with the count of what is left. -/
theorem Accounted.claimAfter_cases {s : State} (hs : Accounted s) (R : EntryNo → Entry → Bool) {n : SlotNo} {c : Claim}
    (hc : s.claim n = some c) :
    (s.claimAfter R n = c.settled ∧ s.endedAt R n = s.boundEntries n) ∨
      s.claimAfter R n = some { c with inFlight := c.inFlight - s.endedAt R n } := by
  cases hset : s.settling R n with
  | none =>
    right
    rw [State.claimAfter, hset, hc]
    rfl
  | some d =>
    left
    obtain ⟨hd, htest⟩ := Option.filter_eq_some_iff.mp hset
    obtain rfl : c = d := Option.some.inj (hc.symm.trans hd)
    simp only [Bool.and_eq_true, decide_eq_true_eq] at htest
    obtain ⟨-, hlast⟩ := htest
    exact ⟨State.claimAfter_of_settling hset, hlast.symm.trans (hs.inFlight_eq hc)⟩

theorem State.claimAfter_free {s : State} {n : SlotNo} (hc : s.claim n = none) (R : EntryNo → Entry → Bool) :
    s.claimAfter R n = none := by
  rw [State.claimAfter, State.settling, hc]
  rfl

theorem Accounted.afterEnd {s : State} (hs : Accounted s) (p : Port) (R : EntryNo → Entry → Bool) (st : Status) :
    Accounted (s.afterEnd p R st) := by
  refine ⟨fun n => ?_, fun k e he => ?_, fun k e he => ?_⟩
  · have hbound := s.boundEntries_afterEnd p R st n
    rw [State.claim_afterEnd]
    cases hc : s.claim n with
    | none =>
      have hfree := hs.inFlight n
      rw [hc] at hfree
      rw [State.claimAfter_free hc]
      dsimp only at hfree ⊢
      omega
    | some c =>
      have hcount := hs.inFlight_eq hc
      rcases hs.claimAfter_cases R hc with ⟨hset, hall⟩ | hstay
      · rw [hset]
        cases hd : c.settled with
        | none =>
          dsimp only
          omega
        | some d =>
          have hzero := Claim.inFlight_of_settled hd
          dsimp only
          omega
      · rw [hstay]
        dsimp only
        omega
  · have hold : s.entry k = some e := by
      rw [State.entry_afterEnd] at he
      split at he
      · exact absurd he.symm (Option.some_ne_none e)
      · exact he
    obtain ⟨c, hc, hport⟩ := hs.claim_of_entry hold
    have hbound := s.boundEntries_afterEnd p R st e.slot
    have hpos : 0 < (s.afterEnd p R st).boundEntries e.slot := by
      rw [State.boundEntries_eq]
      exact List.countP_pos_iff.mpr ⟨k, mem_allEntries k, by simp [he]⟩
    rw [State.claim_afterEnd]
    rcases hs.claimAfter_cases R hc with ⟨-, hall⟩ | hstay
    · omega
    · rw [hstay]
      exact hport
  · rw [State.entry_afterEnd] at he
    split at he
    · exact absurd he.symm (Option.some_ne_none e)
    · exact hs.status k e he

end Sys2Proof.Machine
end

section
/-! PROOFS. Link errors and REALIGN entry, the expiries that end entries, messages out of place, and link loss. -/

namespace Sys2Proof.Machine

open Sys2Proof

/-! ### The end of an operation, and ATTN (R155, R173) -/

theorem State.reportEnd_eq_ends (s : State) (c : HostCommand) (p : Port) (r : CommandResult) :
    s.reportEnd c p.val r = s.ends c.code p (wordOf r.code) := by
  have hrunning : s.running c p.val = true ↔
      s.slotState = .busy ∧ s.latched.code.toNat = c.code ∧ s.latched.arg0.toNat = p.val := by
    simp [State.running, and_assoc]
  rw [State.ends, ← ite_congr (propext hrunning) (fun _ => rfl) (fun _ => rfl)]
  rfl

theorem State.attnFollows_setPort {s : State} (h : AttnFollows s) {p : Port} {x : PortRecord} (hx : x.flags = (s.port p).flags) :
    AttnFollows (s.setPort p x) := by
  rw [State.setPort_eq_portBecomes h hx]
  rfl

theorem State.attnFollows_ends {s : State} (h : AttnFollows s) (code : Nat) (p : Port) (status : Word) :
    AttnFollows (s.ends code p status) := by
  unfold State.ends
  split
  · rfl
  · exact h

theorem Accounted.ends {s : State} (h : Accounted s) (code : Nat) (p : Port) (status : Word) :
    Accounted (s.ends code p status) := by
  unfold State.ends
  split
  · exact h.congr rfl rfl
  · exact h

/-! ### REALIGN entry (R85, R103, R106, R134) -/

/-- The end of the power command that runs for a port with this record (R134). -/
def State.powerEnded (s : State) (p : Port) (x : PortRecord) : State :=
  if x.handshake = .sleepReq then s.ends 10 p 6 else if x.state = .waking then s.ends 11 p 8 else s

theorem State.endPowerCommand_eq (s : State) (p : Port) (x : PortRecord) : s.endPowerCommand p x = s.powerEnded p x := by
  rw [State.endPowerCommand, State.reportEnd_eq_ends, State.reportEnd_eq_ends]
  rfl

theorem State.attnFollows_powerEnded {s : State} (h : AttnFollows s) (p : Port) (x : PortRecord) :
    AttnFollows (s.powerEnded p x) := by
  unfold State.powerEnded
  split_ifs
  · exact State.attnFollows_ends h 10 p 6
  · exact State.attnFollows_ends h 11 p 8
  · exact h

theorem Accounted.powerEnded {s : State} (h : Accounted s) (p : Port) (x : PortRecord) : Accounted (s.powerEnded p x) := by
  unfold State.powerEnded
  split_ifs
  · exact h.ends 10 p 6
  · exact h.ends 11 p 8
  · exact h

theorem State.retrainEntries_eq {s : State} (hattn : AttnFollows s) (hs : Accounted s) (p : Port) :
    s.retrainEntries p = (s.afterEnd p (issuedOf p) .retrained).tagsCleared p := by
  have hreaches : (fun e : Entry => e.port == p && e.issued != 0) = fun e => e.port == p && decide (e.issued ≠ 0) := by
    funext e
    simp [bne, Bool.beq_eq_decide_eq]
  rw [State.retrainEntries, State.endEntries_eq_afterEnd hattn hs (p := p) (fun e he => beq_iff_eq.mp (Bool.and_elim_left he)),
    hreaches]
  rfl

/-- The record of a port that enters REALIGN, with its handshake and its timers gone (R103). -/
def PortRecord.realigning (x : PortRecord) : PortRecord :=
  { x with state := .realign, handshake := .none, dozeIdleTimer := none, answerTimer := none, wakeExitTimer := none }

/-- A port enters REALIGN as its closed account says. -/
theorem State.enterRealign_eq {s : State} (hattn : AttnFollows s) (hs : Accounted s) (p : Port) :
    s.enterRealign p = s.realigned p := by
  have hattn1 := State.attnFollows_powerEnded
    (State.attnFollows_setPort hattn (p := p) (x := (s.port p).realigning) rfl) p (s.port p)
  have hs1 := (hs.congr (t := s.setPort p (s.port p).realigning) rfl rfl).powerEnded p (s.port p)
  have hrecord : s.modifyPort p (fun x =>
      { x with dozeIdleTimer := none, answerTimer := none, wakeExitTimer := none, handshake := .none, state := .realign }) =
        s.setPort p (s.port p).realigning := rfl
  simp only [State.enterRealign, State.endPowerCommand_eq, hrecord]
  rw [State.retrainEntries_eq hattn1 hs1]
  simp only [State.sendAlign, State.transmitAlign_eq, State.modifyPort_eq_setPort, State.setPort_setPort, State.port_setPort_self]
  rfl

/-! ### Messages of a board (R95, R96) -/

/-- A message is received, but for the COMPLETE that is late (R89). -/
theorem exec_message {c : Instr} {p : Port} {seq : Byte} (h : messageNumber c = some (p, seq)) {s : State}
    (hlate : ∀ m, c = .complete p seq m → (s.port p).lateComplete m = false) :
    ∃ act, exec c s = .next (s.receive p seq act) := by
  cases c with
  | complete q k m =>
    obtain ⟨rfl, rfl⟩ := Prod.mk.inj (Option.some.inj h)
    exact ⟨_, if_neg (by simp [hlate m rfl])⟩
  | hello q k | unknownMessage q k | alignAck q k | claim q k | reshape q k | release q k | dozeAck q k | dozeNak q k | sleepReq q k
  | sleepAck q k | sleepNak q k | wake q k | wakeAck q k | notice q k =>
    obtain ⟨rfl, rfl⟩ := Prod.mk.inj (Option.some.inj h)
    exact ⟨_, rfl⟩
  | _ => exact absurd h (by simp [messageNumber])

theorem PortState.receiverOpen_of_comparing {st : PortState} (h : st.comparing) : st.receiverOpen = true := by
  rcases h with rfl | rfl | rfl | rfl <;> rfl

theorem exec_message_wrongNumber {s : State} {p : Port} (hst : (s.port p).state.comparing) {c : Instr} {seq : Byte}
    (h : messageNumber c = some (p, seq)) (hseq : seq ≠ (s.port p).recvSeq) : exec c s = .next (s.enterRealign p) := by
  obtain ⟨act, hact⟩ := exec_message h (s := s) fun m _ =>
    PortRecord.lateComplete_open (PortState.receiverOpen_of_comparing hst) m
  rw [hact, State.receive_wrongNumber hst hseq]

theorem State.badCheck_comparing {s : State} {p : Port} (h : (s.port p).state.comparing) : s.badCheck p = s.enterRealign p := by
  rcases h with h | h | h | h <;> simp only [State.badCheck, h]

/-! ### PORT_RETRAIN (R114, R164) -/

theorem State.startCommand_portRetrain {s : State} {p : Port} (hcode : s.latched.code.toNat = 9) (harg : s.latched.arg0.toNat = p.val) :
    s.startCommand = s.commandPortRetrain := by
  have hc : HostCommand.ofCode s.latched.code = some .portRetrain := by
    simp only [HostCommand.ofCode, hcode]
  have hgood : badArgument .portRetrain s.latched = false := by
    simp only [badArgument, harg, decide_eq_false_iff_not]
    omega
  simp only [State.startCommand, hc, hgood]
  rfl

theorem portOf_eq {w : Word} {p : Port} (h : w.toNat = p.val) : portOf w = p := by
  apply Fin.ext
  simp only [portOf, h]
  omega

theorem State.commandPortRetrain_run {s : State} {p : Port} (harg : s.latched.arg0.toNat = p.val) (h : (s.port p).state = .run) :
    s.commandPortRetrain = s.enterRealign p := by
  simp only [State.commandPortRetrain, portOf_eq harg, h]

theorem State.commandPortRetrain_refused {s : State} {p : Port} (harg : s.latched.arg0.toNat = p.val)
    (h : (s.port p).state ≠ .run) : s.commandPortRetrain = s.refuseCommand .portState := by
  simp only [State.commandPortRetrain, portOf_eq harg]
  split
  next hrun => exact absurd hrun h
  all_goals rfl

theorem exec_portRetrain_ready {s : State} {tag : HostTag} {w : IssueWrite} {r : CommandRecord} (h : IssueReady s tag w r) {p : Port}
    (hcode : r.code.toNat = 9) (harg : r.arg0.toNat = p.val) :
    exec (.portRetrain tag w) s = .next ((s.issued w).commandPortRetrain.answered tag .ok []) := by
  have hc : HostCommand.ofCode r.code = some .portRetrain := by
    simp only [HostCommand.ofCode, hcode]
  obtain ⟨-, -, rfl⟩ := id h
  have hstart : (s.issued w).startCommand = (s.issued w).commandPortRetrain := State.startCommand_portRetrain hcode harg
  rw [← hstart, ← State.issueRow_starts h hc]
  rfl

theorem execHandshakeAnswerTimerExpiry_run {s : State} {p : Port} (hrun : (s.port p).state = .run)
    (htimer : (s.port p).answerTimer ≠ none) : execHandshakeAnswerTimerExpiry p s = .next (s.enterRealign p) := by
  rw [execHandshakeAnswerTimerExpiry, if_pos ⟨hrun, Option.isSome_iff_ne_none.mpr htimer⟩]

theorem execHandshakeAnswerTimerExpiry_idle {s : State} {p : Port}
    (h : (s.port p).state ≠ .run ∨ (s.port p).answerTimer = none) : execHandshakeAnswerTimerExpiry p s = .next s := by
  rw [execHandshakeAnswerTimerExpiry, if_neg]
  rintro ⟨hrun, htimer⟩
  exact h.elim (fun hnot => hnot hrun) (Option.isSome_iff_ne_none.mp htimer)

theorem State.attnFollows_issued {s : State} (h : AttnFollows s) (w : IssueWrite) : AttnFollows (s.issued w) :=
  Eq.trans (b := s.attnCondition) h rfl

theorem Accounted.issued {s : State} (h : Accounted s) (w : IssueWrite) : Accounted (s.issued w) :=
  h.congr rfl rfl

/-- Settles O32: every cause enters REALIGN, and the entry is the closed account of it. -/
theorem linkErrorsEnterRealign : Obligations.LinkErrorsEnterRealign := by
  intro s p hsound x
  have hattn := hsound.attnFollows
  have henter := State.enterRealign_eq hattn hsound.accounted p
  refine ⟨fun hst => ?_, fun hst c seq hc hseq => ?_, fun hrun htimer => ?_, fun hidle => ?_, fun tag w r hready hcode harg => ?_⟩
  · rw [← henter, ← State.badCheck_comparing hst]
    rfl
  · rw [← henter, exec_message_wrongNumber hst hc hseq]
  · rw [← henter]
    exact execHandshakeAnswerTimerExpiry_run hrun htimer
  · exact execHandshakeAnswerTimerExpiry_idle hidle
  · rw [exec_portRetrain_ready hready hcode harg]
    obtain ⟨-, -, rfl⟩ := id hready
    have hissued := State.enterRealign_eq (State.attnFollows_issued hattn w) (hsound.accounted.issued w) p
    refine ⟨fun hrun => ?_, fun hnot => ?_⟩
    · rw [State.commandPortRetrain_run (s := s.issued w) harg hrun, hissued]
    · rw [State.commandPortRetrain_refused (s := s.issued w) harg hnot]
      rfl

/-! ### WAKE_EXIT_TIMER_EXPIRY and COMPLETION_TIMER_EXPIRY (R82, R87, R130) -/

theorem State.endEntries_ofPort {s : State} (hattn : AttnFollows s) (hs : Accounted s) (p : Port) (st : Status) :
    s.endEntries (fun e => e.port == p) st = s.afterEnd p (ofPort p) st :=
  State.endEntries_eq_afterEnd hattn hs (fun _ he => beq_iff_eq.mp he) st

theorem State.wakeFailure_eq {s : State} (hattn : AttnFollows s) (hs : Accounted s) (p : Port) :
    s.wakeFailure p = ((s.afterEnd p (ofPort p) .wakeFail).ends 11 p 8).realigned p := by
  have hattn1 := State.attnFollows_ends (s.attnFollows_afterEnd p (ofPort p) .wakeFail) 11 p 8
  have hs1 := (hs.afterEnd p (ofPort p) .wakeFail).ends 11 p 8
  rw [← State.enterRealign_eq hattn1 hs1, State.wakeFailure, State.endEntries_ofPort hattn hs, State.reportEnd_eq_ends]
  rfl

theorem execWakeExitTimerExpiry_waking {s : State} {p : Port} (hwaking : (s.port p).state = .waking)
    (htimer : (s.port p).wakeExitTimer ≠ none) : execWakeExitTimerExpiry p s = .next (s.wakeFailure p) := by
  rw [execWakeExitTimerExpiry, if_pos ⟨hwaking, Option.isSome_iff_ne_none.mpr htimer⟩]

theorem execWakeExitTimerExpiry_idle {s : State} {p : Port}
    (h : (s.port p).state ≠ .waking ∨ (s.port p).wakeExitTimer = none) : execWakeExitTimerExpiry p s = .next s := by
  rw [execWakeExitTimerExpiry, if_neg]
  rintro ⟨hwaking, htimer⟩
  exact h.elim (fun hnot => hnot hwaking) (Option.isSome_iff_ne_none.mp htimer)

theorem State.attnFollows_portBecomes (s : State) (p : Port) (x : PortRecord) : AttnFollows (s.portBecomes p x) :=
  rfl

theorem Accounted.portBecomes {s : State} (h : Accounted s) (p : Port) (x : PortRecord) : Accounted (s.portBecomes p x) :=
  h.congr rfl rfl

/-- The entry whose completion timer runs out ends, TIMEOUT is raised, and its port enters REALIGN. -/
theorem State.timeout_eq {s : State} (hattn : AttnFollows s) (hs : Accounted s) {k : EntryNo} {e : Entry}
    (he : s.entry k = some e) (t : State) (ht : t = s.afterEnd e.port (fun j _ => j == k) .timeout) :
    ((s.endEntry k e .timeout).raisePort e.port .timeout).enterRealign e.port =
      (t.portBecomes e.port ((t.port e.port).raising 0x080)).realigned e.port := by
  rw [State.endEntry_eq_afterEnd hattn hs he, ← ht]
  have hs1 : Accounted t := ht ▸ hs.afterEnd ..
  exact State.enterRealign_eq (t.attnFollows_portBecomes e.port _) (hs1.portBecomes e.port _) e.port

theorem execCompletionTimerExpiry_run {s : State} {k : EntryNo} {e : Entry} (he : s.entry k = some e) (htimer : e.timer ≠ none)
    (hrun : (s.port e.port).state = .run) : execCompletionTimerExpiry k s =
      .next (((s.endEntry k e .timeout).raisePort e.port .timeout).enterRealign e.port) := by
  simp only [execCompletionTimerExpiry, he]
  rw [if_pos ⟨Option.isSome_iff_ne_none.mpr htimer, hrun⟩]

theorem execCompletionTimerExpiry_idle {s : State} {k : EntryNo} {e : Entry} (he : s.entry k = some e)
    (h : e.timer = none ∨ (s.port e.port).state ≠ .run) : execCompletionTimerExpiry k s = .next s := by
  simp only [execCompletionTimerExpiry, he]
  rw [if_neg]
  rintro ⟨htimer, hrun⟩
  exact h.elim (Option.isSome_iff_ne_none.mp htimer) fun hnot => hnot hrun

theorem execCompletionTimerExpiry_free {s : State} {k : EntryNo} (he : s.entry k = none) :
    execCompletionTimerExpiry k s = .next s := by
  simp only [execCompletionTimerExpiry, he]

/-- Settles O33: the entries end by the closed account, which keeps the laws under which REALIGN entry has its own. -/
theorem expiryEndsEntriesThenRealigns : Obligations.ExpiryEndsEntriesThenRealigns := by
  intro s hsound
  have hattn := hsound.attnFollows
  have hs := hsound.accounted
  refine ⟨fun p => ⟨fun hwaking htimer => ?_, execWakeExitTimerExpiry_idle⟩,
    fun k e he => ⟨fun htimer hrun => ?_, execCompletionTimerExpiry_idle he⟩, fun k => execCompletionTimerExpiry_free⟩
  · exact (execWakeExitTimerExpiry_waking hwaking htimer).trans (congrArg Host.Outcome.next (State.wakeFailure_eq hattn hs p))
  · exact (execCompletionTimerExpiry_run he htimer hrun).trans (congrArg Host.Outcome.next (State.timeout_eq hattn hs he _ rfl))

/-! ### What is dropped and what raises PROTOCOL (R76, R89, R95, R97, R181; log 22) -/

theorem receiverOpen_of_closedState {st : PortState} (h : st ∈ [.off, .listen, .resetting, .fault]) : st.receiverOpen = false := by
  revert h
  cases st <;> simp [PortState.receiverOpen]

theorem State.badCheck_closed {s : State} {p : Port} (h : (s.port p).state.receiverOpen = false) : s.badCheck p = s := by
  unfold State.badCheck
  cases hst : (s.port p).state <;> simp [hst, PortState.receiverOpen] at h ⊢

/-- A closed receiver drops every message but a late COMPLETE. -/
theorem exec_message_closed {s : State} {p : Port} (hst : (s.port p).state.receiverOpen = false) {c : Instr} {seq : Byte}
    (h : messageNumber c = some (p, seq))
    (hended : ∀ m (t : PieceTag), c = .complete p seq m → m.data.length ≤ 8 → t.val = m.tag.toNat →
      (s.port p).endedTags[t] = false) :
    exec c s = .next s := by
  have hlate (m : CompleteMsg) (hm : c = .complete p seq m) : (s.port p).lateComplete m = false := by
    by_cases htag : m.tag.toNat < 8
    · refine Bool.eq_false_iff.mpr fun hlate => ?_
      obtain ⟨-, hlength, hmark⟩ := (PortRecord.lateComplete_iff (s.port p) m (t := ⟨m.tag.toNat, htag⟩) rfl).mp hlate
      exact Bool.false_ne_true ((hended m ⟨m.tag.toNat, htag⟩ hm hlength rfl).symm.trans hmark)
    · exact PortRecord.lateComplete_noTag _ (Nat.not_lt.mp htag)
  obtain ⟨act, hact⟩ := exec_message h hlate
  rw [hact, State.receive_closed hst]

theorem exec_complete_late {s : State} {p : Port} (hst : (s.port p).state.receiverOpen = false) (seq : Byte) {m : CompleteMsg}
    {t : PieceTag} (hlength : m.data.length ≤ 8) (ht : t.val = m.tag.toNat) (hmark : (s.port p).endedTags[t] = true) :
    exec (.complete p seq m) s = .next (s.portBecomes p
      (PortRecord.raising { s.port p with endedTags := (s.port p).endedTags.set t.val false } 0x200)) := by
  have hset : (s.port p).endedTags.setIfInBounds m.tag.toNat false = (s.port p).endedTags.set t.val false := by
    ext1 i hi
    rw [← ht, Vector.getElem_setIfInBounds hi, Vector.getElem_set]
  have hlate := (PortRecord.lateComplete_iff (s.port p) m ht).mpr ⟨hst, hlength, hmark⟩
  refine (execComplete_late hlate seq).trans ?_
  rw [State.takeLateComplete_eq, hset]
  rfl

/-- A power message does nothing in GREET and in REALIGN (R97). -/
theorem exec_powerMessage_uncompared {s : State} {p : Port} (hst : (s.port p).state = .greet ∨ (s.port p).state = .realign)
    {c : Instr} {seq : Byte} (h : messageNumber c = some (p, seq)) (hpower : isPowerMessage c) : exec c s = .next s := by
  have hrun : (s.port p).state ≠ .run := by
    rcases hst with h | h <;> simp [h]
  have hwaking : (s.port p).state ≠ .waking := by
    rcases hst with h | h <;> simp [h]
  have drops {act : State → State} (hact : act s = s) :
      Host.Outcome.next (φ := Fault) (ρ := Refusal) (s.receive p seq act) = .next s := by
    rw [State.receive_uncompared hst, hact]
  cases c with
  | dozeAck q k | dozeNak q k | sleepAck q k | sleepNak q k =>
    obtain ⟨rfl, rfl⟩ := Prod.mk.inj (Option.some.inj h)
    exact drops (if_neg (not_and_of_not_left _ hrun))
  | wakeAck q k =>
    obtain ⟨rfl, rfl⟩ := Prod.mk.inj (Option.some.inj h)
    exact drops (if_neg hwaking)
  | sleepReq q k =>
    obtain ⟨rfl, rfl⟩ := Prod.mk.inj (Option.some.inj h)
    refine drops ?_
    rcases hst with h | h <;> simp only [State.takeSleepReq, h]
  | wake q k =>
    obtain ⟨rfl, rfl⟩ := Prod.mk.inj (Option.some.inj h)
    refine drops ?_
    rcases hst with h | h <;> simp only [State.takeWake, h]
  | _ => exact hpower.elim

theorem exec_hello_linked {s : State} {p : Port} {seq : Byte} (harr : Arrives s p seq) (hst : (s.port p).state ≠ .greet) (m : HelloMsg) :
    exec (.hello p seq m) s = .next ((s.judged p).protocolRaised p) := by
  have hlinked : ((s.judged p).port p).state.linked = true := by
    rw [State.state_port_judged]
    rcases harr with h | h | ⟨h | h | h | h, -⟩
    · exact absurd h hst
    all_goals
      rw [h]
      rfl
  have htake : (s.judged p).takeHello p seq m = (s.judged p).protocolError p := by
    unfold State.takeHello
    split
    next h => simp [h, PortState.linked] at hlinked
    case h_7 h | h_8 h | h_9 h | h_10 h => simp [h, PortState.linked] at hlinked
    all_goals rfl
  refine congrArg Host.Outcome.next ?_
  rw [State.receive_arrives harr, htake]
  rfl

theorem State.takeAlignAck_idle {s : State} {p : Port} (h : (s.port p).state ≠ .realign) (seq : Byte) (y : Word) :
    s.takeAlignAck p seq y = s := by
  unfold State.takeAlignAck
  split
  next hst => exact absurd hst h
  all_goals rfl

/-- Settles O38: closed receivers, GREET, power messages, what raises PROTOCOL, and an ALIGN_ACK that is only heard. -/
theorem messagesOutOfPlaceDropOrRaiseProtocol : Obligations.MessagesOutOfPlaceDropOrRaiseProtocol := by
  intro s p x endedAt
  refine ⟨fun hclosed => ⟨?_, fun c seq hc hended => ?_, fun seq m t hlength ht hmark => ?_⟩, fun hgreet => ⟨?_, fun seq y => ?_⟩,
    fun hst c seq hc hpower => exec_powerMessage_uncompared hst hc hpower, fun seq harr => ?_,
    fun seq m harr hst => exec_hello_linked harr hst m, fun y hst => ?_⟩
  · exact congrArg Host.Outcome.next (State.badCheck_closed (receiverOpen_of_closedState hclosed))
  · exact exec_message_closed (receiverOpen_of_closedState hclosed) hc hended
  · exact exec_complete_late (receiverOpen_of_closedState hclosed) seq hlength ht hmark
  · refine congrArg Host.Outcome.next ?_
    simp only [State.badCheck, show (s.port p).state = .greet from hgreet]
  · refine congrArg Host.Outcome.next ?_
    rw [State.receive_uncompared (.inl hgreet), State.takeAlignAck_idle (by simp [show (s.port p).state = .greet from hgreet])]
  · exact congrArg Host.Outcome.next (State.receive_arrives harr _)
  · refine congrArg Host.Outcome.next ?_
    have hnot : ((s.heard p).port p).state ≠ .realign := by
      rw [State.port_heard_self]
      rcases hst with h | h | h | h <;> simp [State.heardRecord, show (s.port p).state = _ from h]
    rw [State.receive_heard hst rfl, State.takeAlignAck_idle hnot]

/-! ### Link loss (R86, R110, R137 to R139) -/

/-- The board claims of the port become ORPHANED, those that drain stay (R137). -/
def State.orphaned (s : State) (p : Port) : State :=
  { s with claims := s.claims.map fun (c : Option Claim) => c.map fun d =>
      match d.phase with
      | .draining _ => d
      | .live | .reshaping _ _ | .orphaned => if d.isBoardOf p then { d with phase := .orphaned } else d }

theorem State.claim_orphaned (s : State) (p : Port) (n : SlotNo) :
    (s.orphaned p).claim n = (s.claim n).map fun c => c.orphaned p := by
  have horphan (c : Claim) :
      (match c.phase with
        | .draining _ => c
        | .live | .reshaping _ _ | .orphaned => if c.isBoardOf p then { c with phase := .orphaned } else c) = c.orphaned p := by
    obtain ⟨owner, space, base, size, phase, inFlight⟩ := c
    unfold Claim.orphaned
    cases phase <;> simp
  simp only [State.orphaned, State.claim, Fin.getElem_fin, Vector.getElem_map]
  exact congrArg (Option.map · (s.claim n)) (funext horphan)

theorem State.orphanClaims_eq (s : State) (p : Port) : s.orphanClaims p = s.orphaned p := by
  have hclaims : (s.orphanClaims p).claims = (s.orphaned p).claims :=
    State.claims_ext fun n => (s.orphanClaims_claim p n).trans (s.claim_orphaned p n).symm
  rw [State.orphanClaims_frame, hclaims]
  rfl

theorem Claim.orphaned_frame (c : Claim) (p : Port) : c.orphaned p = { c with phase := (c.orphaned p).phase } := by
  unfold Claim.orphaned
  split
  · split <;> rfl
  · rfl

/-- An orphan keeps its owner and its count. -/
theorem Accounted.orphaned {s : State} (h : Accounted s) (p : Port) : Accounted (s.orphaned p) := by
  obtain ⟨hflight, hbinding, hstatus⟩ := h
  refine ⟨fun n => ?_, fun k e he => ?_, hstatus⟩
  · have hn := hflight n
    rw [State.claim_orphaned]
    cases hc : s.claim n with
    | none =>
      rw [hc] at hn
      exact hn
    | some c =>
      rw [hc] at hn
      rw [Option.map_some, c.orphaned_frame p]
      exact hn
  · rw [State.claim_orphaned]
    obtain ⟨c, hc, hport⟩ := Option.bind_eq_some_iff.mp (hbinding k e he)
    rw [hc, Option.map_some, c.orphaned_frame p]
    exact hport

theorem State.dropEntries_eq {s : State} (hattn : AttnFollows s) (hs : Accounted s) (p : Port) :
    s.dropEntries p = (s.afterEnd p (ofPort p) .linkDown).setPort p
      { (s.afterEnd p (ofPort p) .linkDown).port p with tagsInUse := Vector.replicate 8 false, issueList := [] } := by
  rw [State.dropEntries, State.endEntries_ofPort hattn hs]
  simp only [State.freeTags, State.modifyPort_eq_setPort, State.setPort_setPort, State.port_setPort_self]

theorem State.holdOrphans_eq (s : State) (p : Port) : s.holdOrphans p = s.orphansHeld p := by
  have hempty : (s.orphans p).isEmpty = true ↔ s.orphans p = [] := List.isEmpty_iff
  unfold State.holdOrphans State.orphansHeld
  refine ite_congr (propext hempty) (fun _ => rfl) fun _ => ?_
  refine ite_congr rfl (fun _ => ?_) fun _ => ?_
  · rw [State.retireWhere_eq_freed]
    rfl
  · rw [State.modifyPort_eq_setPort, State.raisePort_eq, State.portBecomes_setPort, State.port_setPort_self]
    rfl

/-- A port whose link is lost stands as its closed account says. -/
theorem State.linkLoss_eq {s : State} (hattn : AttnFollows s) (hs : Accounted s) (p : Port) : s.linkLoss p = s.lost p := by
  have hattn1 : AttnFollows ((s.setPort p ((s.port p).sessionOver .listen)).orphaned p) :=
    State.attnFollows_setPort hattn (p := p) (x := (s.port p).sessionOver .listen) rfl
  have hs1 : Accounted ((s.setPort p ((s.port p).sessionOver .listen)).orphaned p) :=
    (hs.congr (t := s.setPort p ((s.port p).sessionOver .listen)) rfl rfl).orphaned p
  have hover : s.modifyPort p (fun x => x.endSession .listen) = s.setPort p ((s.port p).sessionOver .listen) := rfl
  simp only [State.linkLoss, hover, State.orphanClaims_eq, State.dropEntries_eq hattn1 hs1, State.holdOrphans_eq,
    State.endLinkCommands, State.reportEnd_eq_ends]
  rfl

/-! ### PRESENCE_LOST and HOLD_TIMER_EXPIRY (R93, R141) -/

/-- The port's partner is gone. -/
def State.alone (s : State) (p : Port) : State :=
  s.setPort p { s.port p with present := false }

theorem execPresenceLost_absent {s : State} {p : Port} (h : (s.port p).present = false) : execPresenceLost p s = .next s := by
  rw [execPresenceLost, if_neg (by simp [h])]

theorem execPresenceLost_present {s : State} {p : Port} (h : (s.port p).present = true) :
    execPresenceLost p s = .next ((s.alone p).losePartner p) := by
  rw [execPresenceLost, if_pos h]
  rfl

theorem State.losePartner_alone_greet {s : State} {p : Port} (h : (s.port p).state = .greet) :
    (s.alone p).losePartner p = s.setPort p { s.port p with present := false, state := .listen, greetTimer := none } := by
  simp only [State.losePartner, State.alone, State.port_setPort_self, h, State.modifyPort_eq_setPort, State.setPort_setPort]

theorem State.losePartner_linked {s : State} {p : Port} (h : (s.port p).state.linked = true) : s.losePartner p = s.linkLoss p := by
  unfold State.losePartner
  cases hst : (s.port p).state <;> simp [hst, PortState.linked] at h ⊢

theorem State.losePartner_closed {s : State} {p : Port} (h : (s.port p).state.receiverOpen = false) : s.losePartner p = s := by
  unfold State.losePartner
  cases hst : (s.port p).state <;> simp [hst, PortState.receiverOpen] at h ⊢

theorem execHoldTimerExpiry_run {s : State} {p : Port} (h : (s.port p).holdTimer ≠ none) :
    execHoldTimerExpiry p s =
      .next (((s.freed p fun c => c.isOrphanOf p).raisePort p .orphansDropped).modifyPort p fun x => { x with holdTimer := none }) := by
  rw [execHoldTimerExpiry, if_pos (Option.isSome_iff_ne_none.mpr h), State.retireWhere_eq_freed]

theorem execHoldTimerExpiry_idle {s : State} {p : Port} (h : (s.port p).holdTimer = none) : execHoldTimerExpiry p s = .next s := by
  rw [execHoldTimerExpiry, if_neg (by simp [h])]

/-- A flag raised and the hold timer stopped are one record. -/
theorem State.orphansDropped_eq (t : State) (p : Port) :
    (t.raisePort p .orphansDropped).modifyPort p (fun x => { x with holdTimer := none }) =
      t.portBecomes p (PortRecord.raising { t.port p with holdTimer := none } 0x020) := by
  rw [State.raisePort_eq, State.modifyPort_eq_setPort, State.port_portBecomes_self, State.setPort_portBecomes _ _ _ _ (by rfl)]
  rfl

/-- Settles O35: the states of the port take PRESENCE_LOST apart, and link loss is the closed account. -/
theorem presenceLossOrphansClaims : Obligations.PresenceLossOrphansClaims := by
  intro s p x alone
  refine ⟨execPresenceLost_absent, fun hpresent => ⟨fun hgreet => ?_, fun hlinked hsound => ?_, fun hclosed => ?_⟩,
    fun htimer => ?_, execHoldTimerExpiry_idle⟩
  · exact (execPresenceLost_present hpresent).trans (congrArg Host.Outcome.next (State.losePartner_alone_greet hgreet))
  · have hattn : AttnFollows (s.alone p) := State.attnFollows_setPort hsound.attnFollows rfl
    have hs : Accounted (s.alone p) := hsound.accounted.congr rfl rfl
    have hstate : ((s.alone p).port p).state.linked = true := by
      rwa [State.alone, State.port_setPort_self]
    refine (execPresenceLost_present hpresent).trans (congrArg Host.Outcome.next ?_)
    rw [State.losePartner_linked hstate, State.linkLoss_eq hattn hs]
    rfl
  · have hstate : ((s.alone p).port p).state.receiverOpen = false := by
      rw [State.alone, State.port_setPort_self]
      exact receiverOpen_of_closedState hclosed
    refine (execPresenceLost_present hpresent).trans (congrArg Host.Outcome.next ?_)
    rw [State.losePartner_closed hstate]
    rfl
  · exact (execHoldTimerExpiry_run htimer).trans (congrArg Host.Outcome.next (State.orphansDropped_eq _ p))

end Sys2Proof.Machine
end

section
/-! PROOFS. PORT_ENABLE and the end of reset signalling, the entry into GREET, failed greetings, and the end of REALIGN. -/

namespace Sys2Proof.Machine

open Sys2Proof

/-! ### PORT_ENABLE (R114, R153, R154, R163) -/

/-- An issue write of a command whose arguments are in range, taken at once: the command's own rule, answered OK. -/
theorem State.issueRow_performs {s : State} {tag : HostTag} {w : IssueWrite} {r : CommandRecord} (h : IssueReady s tag w r)
    {c : HostCommand} (hc : HostCommand.ofCode r.code = some c) (hgood : badArgument c r = false) :
    s.issueRow (some c) tag w = ((s.issued w).perform c).answered tag .ok [] := by
  obtain ⟨-, -, rfl⟩ := id h
  have hlatched : (s.issued w).latched = recordFound w s.command := rfl
  have hstart : (s.issued w).startCommand = (s.issued w).perform c := by
    simp only [State.startCommand, hlatched, hc, hgood]
    rfl
  rw [State.issueRow_starts h hc, hstart]

theorem exec_portEnable_ready {s : State} {tag : HostTag} {w : IssueWrite} {r : CommandRecord} (h : IssueReady s tag w r) {p : Port}
    (hcode : r.code.toNat = 6) (harg : r.arg0.toNat = p.val) :
    exec (.portEnable tag w) s = .next ((s.issued w).commandPortEnable.answered tag .ok []) := by
  have hc : HostCommand.ofCode r.code = some .portEnable := by
    simp only [HostCommand.ofCode, hcode]
  have hgood : badArgument .portEnable r = false := by
    simp only [badArgument, harg, decide_eq_false_iff_not]
    omega
  exact congrArg Host.Outcome.next (State.issueRow_performs h hc hgood)

theorem State.commandPortEnable_starts {s : State} {p : Port} (harg : s.latched.arg0.toNat = p.val)
    (h : (s.port p).state = .off ∨ (s.port p).state = .fault) :
    s.commandPortEnable =
      (s.setPort p
        { s.port p with state := .listen, greetFailures := 0, endedTags := Vector.replicate 8 false }).concluded 1 0 0 0 0 := by
  rcases h with h | h
  all_goals
    simp only [State.commandPortEnable, portOf_eq harg, h]
    rfl

theorem State.commandPortEnable_refused {s : State} {p : Port} (harg : s.latched.arg0.toNat = p.val)
    (hoff : (s.port p).state ≠ .off) (hfault : (s.port p).state ≠ .fault) : s.commandPortEnable = s.concluded 2 15 0 0 0 := by
  simp only [State.commandPortEnable, portOf_eq harg]
  split
  next h => exact absurd h hoff
  next h => exact absurd h hfault
  all_goals rfl

/-! ### RESET_SIGNALLING_TIMER_EXPIRY (R113) -/

theorem execResetSignallingTimerExpiry_resetting {s : State} {p : Port} (hst : (s.port p).state = .resetting)
    (htimer : (s.port p).resetTimer ≠ none) :
    execResetSignallingTimerExpiry p s = .next ((s.setPort p
      { s.port p with state := .listen, resetTimer := none, endedTags := Vector.replicate 8 false }).ends 8 p 1) := by
  rw [execResetSignallingTimerExpiry, if_pos ⟨hst, Option.isSome_iff_ne_none.mpr htimer⟩, State.reportEnd_eq_ends]
  rfl

theorem execResetSignallingTimerExpiry_idle {s : State} {p : Port}
    (h : (s.port p).state ≠ .resetting ∨ (s.port p).resetTimer = none) : execResetSignallingTimerExpiry p s = .next s := by
  rw [execResetSignallingTimerExpiry, if_neg]
  rintro ⟨hst, htimer⟩
  exact h.elim (fun hnot => hnot hst) (Option.isSome_iff_ne_none.mp htimer)

/-! ### The entry into GREET (R93, R94, R99) -/

/-- The record of a port that enters GREET. -/
def PortRecord.greeting (x : PortRecord) : PortRecord :=
  { x with state := .greet, greetTimer := some 20000, sendSeq := 0, endedTags := Vector.replicate 8 false }

theorem State.enterGreet_eq (s : State) (p : Port) : s.enterGreet p = s.setPort p (s.port p).greeting :=
  rfl

theorem execPresenceAppears_listen {s : State} {p : Port} (habsent : (s.port p).present = false)
    (hst : (s.port p).state = .listen) :
    execPresenceAppears p s = .next (s.setPort p (PortRecord.greeting { s.port p with present := true })) := by
  rw [execPresenceAppears, if_neg (by simp [habsent])]
  simp only [if_pos hst, State.modifyPort_eq_setPort, State.enterGreet_eq, State.setPort_setPort, State.port_setPort_self]

theorem execPresenceAppears_held {s : State} {p : Port} (habsent : (s.port p).present = false)
    (hst : (s.port p).state ≠ .listen) : execPresenceAppears p s = .next (s.setPort p { s.port p with present := true }) := by
  rw [execPresenceAppears, if_neg (by simp [habsent])]
  exact if_neg hst

theorem execPresenceAppears_present {s : State} {p : Port} (h : (s.port p).present = true) :
    execPresenceAppears p s = .next s :=
  if_pos h

theorem execGreetEntry_listen {s : State} {p : Port} (hst : (s.port p).state = .listen) (hpresent : (s.port p).present = true) :
    execGreetEntry p s = .next (s.setPort p (s.port p).greeting) :=
  if_pos ⟨hst, hpresent⟩

theorem execGreetEntry_idle {s : State} {p : Port} (h : (s.port p).state ≠ .listen ∨ (s.port p).present = false) :
    execGreetEntry p s = .next s := by
  rw [execGreetEntry, if_neg]
  rintro ⟨hst, hpresent⟩
  exact h.elim (fun hnot => hnot hst) fun habsent => Bool.false_ne_true (habsent.symm.trans hpresent)

/-- Settles O30: PORT_ENABLE, the reset signalling timer, a partner that appears, and GREET_ENTRY, each by the state of the port. -/
theorem portStartsListeningAndGreeting : Obligations.PortStartsListeningAndGreeting := by
  intro s p x noTags greeting
  refine ⟨fun tag w r hready hcode harg => ?_, execResetSignallingTimerExpiry_resetting, execResetSignallingTimerExpiry_idle,
    execPresenceAppears_listen, execPresenceAppears_held, execPresenceAppears_present, execGreetEntry_listen, execGreetEntry_idle⟩
  rw [exec_portEnable_ready hready hcode harg]
  obtain ⟨-, -, rfl⟩ := hready
  refine ⟨fun hclosed => ?_, fun hoff hfault => ?_⟩
  · rw [State.commandPortEnable_starts (s := s.issued w) harg hclosed]
    rfl
  · rw [State.commandPortEnable_refused (s := s.issued w) harg hoff hfault]

/-! ### A greeting fails (R100) -/

/-- The record of a port after one more greeting has failed, in the state it goes to. -/
def PortRecord.greetFailed (x : PortRecord) (st : PortState) : PortRecord :=
  { x with state := st, greetTimer := none, greetFailures := x.greetFailures + 1 }

theorem State.greetFailure_eq (s : State) (p : Port) :
    s.greetFailure p =
      if (s.port p).greetFailures + 1 < 4 then s.setPort p ((s.port p).greetFailed .listen)
      else s.portBecomes p (((s.port p).greetFailed .fault).raising 0x004) := by
  refine ite_congr rfl (fun _ => rfl) fun _ => ?_
  rw [State.raisePort_eq, State.modifyPort_eq_setPort, State.portBecomes_setPort, State.port_setPort_self]
  rfl

theorem helloGood_iff (m : HelloMsg) : m.good = true ↔ m.revision = 1 ∧ 1 ≤ m.credit.toNat ∧ m.credit.toNat ≤ 8 := by
  simp [HelloMsg.good, and_assoc]

theorem exec_hello_notGood {s : State} {p : Port} {m : HelloMsg} (hgreet : (s.port p).state = .greet) (hbad : ¬ m.good = true)
    (seq : Byte) : exec (.hello p seq m) s = .next (s.greetFailure p) := by
  change Host.Outcome.next (s.receive p seq fun t => t.takeHello p seq m) = _
  rw [State.receive_uncompared (.inl hgreet)]
  simp only [State.takeHello, hgreet, if_neg hbad]

theorem execGreetTimerExpiry_greet {s : State} {p : Port} (hgreet : (s.port p).state = .greet)
    (htimer : (s.port p).greetTimer ≠ none) : execGreetTimerExpiry p s = .next (s.greetFailure p) :=
  if_pos ⟨hgreet, Option.isSome_iff_ne_none.mpr htimer⟩

theorem execGreetTimerExpiry_idle {s : State} {p : Port} (h : (s.port p).state ≠ .greet ∨ (s.port p).greetTimer = none) :
    execGreetTimerExpiry p s = .next s := by
  rw [execGreetTimerExpiry, if_neg]
  rintro ⟨hgreet, htimer⟩
  exact h.elim (fun hnot => hnot hgreet) (Option.isSome_iff_ne_none.mp htimer)

/-- Settles O37: both causes are the one failure, which is LISTEN below the fourth and FAULT at it. -/
theorem greetFailureListensOrFaults : Obligations.GreetFailureListensOrFaults := by
  intro s p x failed outcome
  have houtcome : s.greetFailure p = outcome := State.greetFailure_eq s p
  rw [← houtcome]
  refine ⟨fun hgreet => ⟨fun seq m hbad => ?_, execGreetTimerExpiry_greet hgreet⟩, execGreetTimerExpiry_idle⟩
  exact exec_hello_notGood hgreet (fun hgood => hbad ((helloGood_iff m).mp hgood)) seq

/-! ### The end of REALIGN (R104, R105, R107, R110) -/

/-- The record of a port after one more attempt has failed (R105). -/
def PortRecord.attemptFailed (x : PortRecord) : PortRecord :=
  { x with realignAttempts := x.realignAttempts + 1 }

theorem State.sendAlign_eq (s : State) (p : Port) :
    s.sendAlign p = s.setPort p
      { s.port p with sent := (s.port p).sent ++ [⟨0, .align p⟩], attemptTimer := some 2000 } := by
  rw [State.sendAlign, State.transmitAlign_eq, State.modifyPort_eq_setPort, State.setPort_setPort, State.port_setPort_self]
  rfl

/-- A failed attempt loses the link at the limit, and sends ALIGN again below it. -/
theorem State.attemptFailure_eq {s : State} (hattn : AttnFollows s) (hs : Accounted s) (p : Port) :
    s.attemptFailure p =
      if (s.port p).realignAttempts + 1 = (s.port p).realignLimit then (s.setPort p (s.port p).attemptFailed).lost p
      else s.setPort p
        { (s.port p).attemptFailed with sent := (s.port p).sent ++ [⟨0, .align p⟩], attemptTimer := some 2000 } := by
  have hattn1 : AttnFollows (s.setPort p (s.port p).attemptFailed) := State.attnFollows_setPort hattn rfl
  have hs1 : Accounted (s.setPort p (s.port p).attemptFailed) := hs.congr rfl rfl
  refine ite_congr rfl (fun _ => State.linkLoss_eq hattn1 hs1 p) fun _ => ?_
  rw [State.sendAlign_eq, State.modifyPort_eq_setPort, State.setPort_setPort, State.port_setPort_self]
  rfl

theorem State.badCheck_realign {s : State} {p : Port} (h : (s.port p).state = .realign) : s.badCheck p = s.attemptFailure p := by
  simp only [State.badCheck, h]

theorem execAttemptTimerExpiry_realign {s : State} {p : Port} (hst : (s.port p).state = .realign)
    (htimer : (s.port p).attemptTimer ≠ none) : execAttemptTimerExpiry p s = .next (s.attemptFailure p) :=
  if_pos ⟨hst, Option.isSome_iff_ne_none.mpr htimer⟩

theorem execAttemptTimerExpiry_idle {s : State} {p : Port} (h : (s.port p).state ≠ .realign ∨ (s.port p).attemptTimer = none) :
    execAttemptTimerExpiry p s = .next s := by
  rw [execAttemptTimerExpiry, if_neg]
  rintro ⟨hst, htimer⟩
  exact h.elim (fun hnot => hnot hst) (Option.isSome_iff_ne_none.mp htimer)

/-- ALIGN_ACK in REALIGN is judged whatever its number (R96). -/
theorem exec_alignAck_realign {s : State} {p : Port} (hst : (s.port p).state = .realign) (seq : Byte) (y : Word) :
    exec (.alignAck p seq y) s = .next (if (s.port p).identity = some y then s.returnToRun p seq else s.linkLoss p) := by
  change Host.Outcome.next (s.receive p seq fun t => t.takeAlignAck p seq y) = _
  rw [State.receive_uncompared (.inr hst)]
  simp only [State.takeAlignAck, hst]

theorem State.returnToRun_eq (s : State) (p : Port) (seq : Byte) :
    s.returnToRun p seq = (s.setPort p (s.timed
      { s.port p with
        state := .run, attemptTimer := none, realignAttempts := 0, recvSeq := seq + 1, sendSeq := 1 })).ends 9 p 1 := by
  rw [State.returnToRun, State.reportEnd_eq_ends]
  simp only [State.enterRun, State.restartIdle_eq, State.modifyPort_eq_setPort, State.setPort_setPort, State.port_setPort_self]
  rfl

/-- Settles O34: a failed attempt by its count, ALIGN_ACK by the identity it carries, and link loss as its closed account. -/
theorem realignEndsInRunOrLinkLoss : Obligations.RealignEndsInRunOrLinkLoss := by
  intro s p hsound x failed outcome
  have hattn := hsound.attnFollows
  have houtcome : s.attemptFailure p = outcome := State.attemptFailure_eq hattn hsound.accounted p
  rw [← houtcome]
  refine ⟨fun hst => ⟨?_, execAttemptTimerExpiry_realign hst, fun seq y => ?_⟩, execAttemptTimerExpiry_idle⟩
  · exact congrArg Host.Outcome.next (State.badCheck_realign hst)
  · rw [exec_alignAck_realign hst]
    refine ⟨fun hsame => ?_, fun hother => ?_⟩
    · rw [if_pos hsame, State.returnToRun_eq]
    · rw [if_neg hother, State.linkLoss_eq hattn hsound.accounted]

end Sys2Proof.Machine
end

section
/-! PROOFS. Doze, sleep and wake: the doze handshake, PORT_SLEEP and the board's SLEEP_REQ, PORT_WAKE and the board's WAKE. -/

namespace Sys2Proof.Machine

open Sys2Proof

/-! ### Empty ports, and work that waits (R120, R122, R126, R128) -/

theorem State.hasEntry_eq_false_iff (s : State) (p : Port) : s.hasEntry p = false ↔ NoEntryOf s p := by
  simp only [State.hasEntry, allEntries, List.any_eq_false, List.mem_finRange, forall_const]
  refine forall_congr' fun k => ?_
  cases s.entry k <;> simp

theorem State.portEmpty_iff (s : State) (p : Port) : s.portEmpty p = true ↔ PortEmpty s p := by
  rw [PortEmpty, ← State.hasEntry_eq_false_iff]
  simp [State.portEmpty, and_assoc]

/-- What makes a port empty is not in the fields that a power message writes. -/
theorem portEmpty_setPort {s : State} {p : Port} {x : PortRecord} (howed : x.owed = (s.port p).owed)
    (hlist : x.receiveList = (s.port p).receiveList) : PortEmpty (s.setPort p x) p ↔ PortEmpty s p := by
  simp only [PortEmpty, State.port_setPort_self, howed, hlist]
  rfl

theorem State.wakeIfWork_eq (s : State) (p : Port) : s.wakeIfWork p = s.restsOrWakes p := by
  have hwork : (s.hasEntry p || !(s.port p).owed.isEmpty) = true ↔ ¬ NoEntryOf s p ∨ (s.port p).owed ≠ [] := by
    rw [← State.hasEntry_eq_false_iff]
    simp
  exact ite_congr (propext hwork) (fun _ => State.wakeCause_eq s p) fun _ => rfl

/-! ### The record that each power operation writes (R122, R125, R126, R129) -/

theorem State.endHandshake_eq (s : State) (p : Port) :
    s.endHandshake p = s.setPort p (s.timed { s.port p with handshake := .none, answerTimer := none }) := by
  rw [State.endHandshake, State.restartIdle_eq, State.modifyPort_eq_setPort, State.setPort_setPort, State.port_setPort_self]
  rfl

theorem State.enterPower_eq (s : State) (p : Port) (st : PortState) :
    s.enterPower p st = s.setPort p ((s.port p).resting st) :=
  rfl

theorem State.enterRun_eq (s : State) (p : Port) : s.enterRun p = s.setPort p (s.timed { s.port p with state := .run }) := by
  rw [State.enterRun, State.restartIdle_eq, State.modifyPort_eq_setPort, State.setPort_setPort, State.port_setPort_self]
  rfl

theorem State.endWake_eq (s : State) (p : Port) :
    s.endWake p = (s.setPort p (s.timed { s.port p with state := .run, wakeExitTimer := none })).ends 11 p 1 := by
  rw [State.endWake, State.reportEnd_eq_ends, State.enterRun_eq, State.modifyPort_eq_setPort, State.setPort_setPort,
    State.port_setPort_self]
  rfl

/-! ### A message with the expected number (R96, R119) -/

@[simp] theorem State.state_heardRecord (s : State) (p : Port) : (s.heardRecord p).state = (s.port p).state := rfl
@[simp] theorem State.handshake_heardRecord (s : State) (p : Port) : (s.heardRecord p).handshake = (s.port p).handshake := rfl

@[simp] theorem State.setPort_heard (s : State) (p : Port) (x : PortRecord) : (s.heard p).setPort p x = s.setPort p x :=
  State.setPort_setPort s p _ x

@[simp] theorem State.timed_heard (s : State) (p : Port) (x : PortRecord) : (s.heard p).timed x = s.timed x := rfl

@[simp] theorem State.sentRecord_heard (s : State) (p : Port) (x : PortRecord) (m : OutMessage) :
    (s.heard p).sentRecord x m = s.sentRecord x m := rfl

@[simp] theorem State.state_port_heard (s : State) (p : Port) : ((s.heard p).port p).state = (s.port p).state := by simp

@[simp] theorem State.handshake_port_heard (s : State) (p : Port) : ((s.heard p).port p).handshake = (s.port p).handshake := by simp

theorem portEmpty_heard (s : State) (p : Port) : PortEmpty (s.heard p) p ↔ PortEmpty s p :=
  portEmpty_setPort rfl rfl

/-- A message with the expected number acts on the state in which it is heard. -/
theorem exec_expected {s t : State} {p : Port} {c : Instr} {act : State → State}
    (hexec : exec c s = .next (s.receive p (s.port p).recvSeq act)) (hst : (s.port p).state.comparing) (hact : act (s.heard p) = t) :
    exec c s = .next t := by
  rw [hexec, State.receive_heard hst rfl, hact]

/-! ### The doze idle timer's expiry (R119, R120) -/

theorem execDozeIdleTimerExpiry_sends {s : State} {p : Port} (hrun : (s.port p).state = .run)
    (htimer : (s.port p).dozeIdleTimer ≠ none) (hempty : PortEmpty s p) (hshake : (s.port p).handshake = .none) :
    execDozeIdleTimerExpiry p s = .next (s.setPort p
      { s.sentRecord (s.port p) .dozeReq with handshake := .dozeReq, answerTimer := some 1000, dozeIdleTimer := none }) := by
  rw [execDozeIdleTimerExpiry, if_pos ⟨hrun, Option.isSome_iff_ne_none.mpr htimer⟩,
    if_pos ⟨(s.portEmpty_iff p).mpr hempty, hshake⟩]
  simp [State.sendDozeReq, State.transmit_eq, State.modifyPort_eq_setPort, State.sentRecord, State.idleOf, answerLimit]

theorem execDozeIdleTimerExpiry_restarts {s : State} {p : Port} (hrun : (s.port p).state = .run)
    (htimer : (s.port p).dozeIdleTimer ≠ none) (h : ¬ PortEmpty s p ∨ (s.port p).handshake ≠ .none) :
    execDozeIdleTimerExpiry p s = .next (s.setPort p (s.timed (s.port p))) := by
  rw [← State.portEmpty_iff] at h
  rw [execDozeIdleTimerExpiry, if_pos ⟨hrun, Option.isSome_iff_ne_none.mpr htimer⟩, if_neg (not_and_or.mpr h),
    State.restartIdle_eq]
  rfl

theorem execDozeIdleTimerExpiry_idle {s : State} {p : Port}
    (h : (s.port p).state ≠ .run ∨ (s.port p).dozeIdleTimer = none) : execDozeIdleTimerExpiry p s = .next s := by
  rw [execDozeIdleTimerExpiry, if_neg]
  rintro ⟨hrun, htimer⟩
  exact h.elim (fun hnot => hnot hrun) (Option.isSome_iff_ne_none.mp htimer)

/-! ### The answers to DOZE_REQ (R122, R133) -/

theorem State.takeDozeAck_outstanding {s : State} {p : Port} (hrun : (s.port p).state = .run)
    (hreq : (s.port p).handshake = .dozeReq) :
    s.takeDozeAck p = (s.setPort p ((s.port p).resting .doze)).restsOrWakes p := by
  rw [State.takeDozeAck, if_pos ⟨hrun, hreq⟩, State.wakeIfWork_eq, State.enterPower_eq]

theorem State.takeDozeNak_outstanding {s : State} {p : Port} (hrun : (s.port p).state = .run)
    (hreq : (s.port p).handshake = .dozeReq) :
    s.takeDozeNak p = s.setPort p (s.timed { s.port p with handshake := .none, answerTimer := none }) := by
  rw [State.takeDozeNak, if_pos ⟨hrun, hreq⟩, State.endHandshake_eq]

theorem State.takeDozeAck_idle {s : State} {p : Port} (h : (s.port p).state ≠ .run ∨ (s.port p).handshake ≠ .dozeReq) :
    s.takeDozeAck p = s :=
  if_neg (not_and_or.mpr h)

theorem State.takeDozeNak_idle {s : State} {p : Port} (h : (s.port p).state ≠ .run ∨ (s.port p).handshake ≠ .dozeReq) :
    s.takeDozeNak p = s :=
  if_neg (not_and_or.mpr h)

/-- Settles O48: the expiry by what the port holds, and each answer on the heard state, by whether a DOZE_REQ is outstanding. -/
theorem dozeHandshakeEntersDoze : Obligations.DozeHandshakeEntersDoze := by
  intro s p x h
  refine ⟨fun hrun htimer => ⟨execDozeIdleTimerExpiry_sends hrun htimer, execDozeIdleTimerExpiry_restarts hrun htimer⟩,
    execDozeIdleTimerExpiry_idle, fun hrun hreq => ⟨?_, ?_⟩, fun hst hnot => ⟨?_, ?_⟩⟩
  · refine exec_expected rfl (.inl hrun) ?_
    rw [State.takeDozeAck_outstanding ((s.state_port_heard p).trans hrun) ((s.handshake_port_heard p).trans hreq),
      State.setPort_heard, State.port_heard_self]
  · refine exec_expected rfl (.inl hrun) ?_
    rw [State.takeDozeNak_outstanding ((s.state_port_heard p).trans hrun) ((s.handshake_port_heard p).trans hreq),
      State.setPort_heard, State.timed_heard, State.port_heard_self]
  · exact exec_expected rfl hst (State.takeDozeAck_idle (by simpa using hnot))
  · exact exec_expected rfl hst (State.takeDozeNak_idle (by simpa using hnot))

/-! ### The issue of a power command (R153, R154, R164) -/

theorem HostCommand.ofCode_eq_some {code : Word} {c : HostCommand} (h : code.toNat = c.code) : HostCommand.ofCode code = some c := by
  cases c <;> simp only [HostCommand.ofCode, h, HostCommand.code]

/-- PORT_SLEEP or PORT_WAKE issued for a port of the part performs its own rule, answered OK. -/
theorem exec_powerCommand_ready {s : State} {tag : HostTag} {w : IssueWrite} {r : CommandRecord} (h : IssueReady s tag w r)
    {c : HostCommand} (hc : c = .portSleep ∨ c = .portWake) (hcode : r.code.toNat = c.code) {p : Port}
    (harg : r.arg0.toNat = p.val) :
    exec (issueRowOf (some c) tag w) s = .next (((s.issued w).perform c).answered tag .ok []) := by
  have hgood : badArgument c r = false := by
    rcases hc with rfl | rfl
    all_goals
      simp only [badArgument, harg, decide_eq_false_iff_not]
      omega
  rw [exec_issueRowOf, State.issueRow_performs h (HostCommand.ofCode_eq_some hcode) hgood]

/-! ### PORT_SLEEP (R124, R164) -/

theorem State.commandPortSleep_wrongState {s : State} {p : Port} (harg : s.latched.arg0.toNat = p.val)
    (h : (s.port p).state ≠ .run) : s.commandPortSleep = s.concluded 2 15 0 0 0 := by
  simp only [State.commandPortSleep, portOf_eq harg]
  split
  next hrun => exact absurd hrun h
  all_goals rfl

theorem State.commandPortSleep_busy {s : State} {p : Port} (harg : s.latched.arg0.toNat = p.val)
    (hrun : (s.port p).state = .run) (h : (s.port p).handshake ≠ .none ∨ ¬ NoEntryOf s p) :
    s.commandPortSleep = s.concluded 2 16 0 0 0 := by
  rw [← State.hasEntry_eq_false_iff] at h
  simp only [State.commandPortSleep, portOf_eq harg, hrun, if_neg (not_and_or.mpr h)]
  rfl

theorem State.commandPortSleep_sends {s : State} {p : Port} (harg : s.latched.arg0.toNat = p.val)
    (hrun : (s.port p).state = .run) (hshake : (s.port p).handshake = .none) (hnone : NoEntryOf s p) :
    s.commandPortSleep = s.setPort p
      { s.sentRecord (s.port p) .sleepReq with handshake := .sleepReq, answerTimer := some 1000, dozeIdleTimer := none } := by
  rw [← State.hasEntry_eq_false_iff] at hnone
  simp [State.commandPortSleep, portOf_eq harg, hrun, hshake, hnone, State.transmit_eq, State.modifyPort_eq_setPort,
    State.sentRecord, State.idleOf, answerLimit]

/-! ### The answers to SLEEP_REQ (R125, R133) -/

theorem State.takeSleepAck_outstanding {s : State} {p : Port} (hrun : (s.port p).state = .run)
    (hreq : (s.port p).handshake = .sleepReq) :
    s.takeSleepAck p = ((s.setPort p ((s.port p).resting .sleep)).ends 10 p 1).restsOrWakes p := by
  rw [State.takeSleepAck, if_pos ⟨hrun, hreq⟩, State.wakeIfWork_eq, State.reportEnd_eq_ends, State.enterPower_eq]
  rfl

theorem State.takeSleepNak_outstanding {s : State} {p : Port} (hrun : (s.port p).state = .run)
    (hreq : (s.port p).handshake = .sleepReq) :
    s.takeSleepNak p = (s.setPort p (s.timed { s.port p with handshake := .none, answerTimer := none })).ends 10 p 6 := by
  rw [State.takeSleepNak, if_pos ⟨hrun, hreq⟩, State.reportEnd_eq_ends, State.endHandshake_eq]
  rfl

theorem State.takeSleepAck_idle {s : State} {p : Port} (h : (s.port p).state ≠ .run ∨ (s.port p).handshake ≠ .sleepReq) :
    s.takeSleepAck p = s :=
  if_neg (not_and_or.mpr h)

theorem State.takeSleepNak_idle {s : State} {p : Port} (h : (s.port p).state ≠ .run ∨ (s.port p).handshake ≠ .sleepReq) :
    s.takeSleepNak p = s :=
  if_neg (not_and_or.mpr h)

/-! ### The board's SLEEP_REQ (R126, R133) -/

/-- The record with an outstanding DOZE_REQ given up (R126). -/
def State.undozed (s : State) (x : PortRecord) : PortRecord :=
  if x.handshake = .dozeReq then s.timed { x with handshake := .none, answerTimer := none } else x

theorem State.undozed_lists (s : State) (x : PortRecord) :
    (s.undozed x).owed = x.owed ∧ (s.undozed x).receiveList = x.receiveList := by
  unfold State.undozed
  split <;> exact ⟨rfl, rfl⟩

theorem State.undozed_heard (s : State) (p : Port) (x : PortRecord) : (s.heard p).undozed x = s.undozed x := rfl

theorem State.takeSleepReq_crossed {s : State} {p : Port} (hrun : (s.port p).state = .run)
    (hreq : (s.port p).handshake = .sleepReq) : s.takeSleepReq p = s.setPort p (s.sentRecord (s.port p) .sleepNak) := by
  simp only [State.takeSleepReq, hrun, hreq, State.transmit_eq]

/-- In RUN with no SLEEP_REQ of its own the port gives up its DOZE_REQ and judges the board's request. -/
theorem State.takeSleepReq_run {s : State} {p : Port} (hrun : (s.port p).state = .run)
    (hreq : (s.port p).handshake ≠ .sleepReq) :
    s.takeSleepReq p = (s.setPort p (s.undozed (s.port p))).judgeSleepReq p := by
  cases hshake : (s.port p).handshake with
  | none => simp [State.takeSleepReq, State.undozed, hrun, hshake]
  | dozeReq => simp [State.takeSleepReq, State.undozed, hrun, hshake, State.endHandshake_eq]
  | sleepReq => exact absurd hshake hreq

theorem State.judgeSleepReq_empty {s : State} {p : Port} (hempty : PortEmpty s p) :
    s.judgeSleepReq p = s.setPort p ((s.sentRecord (s.port p) .sleepAck).resting .sleep) := by
  rw [State.judgeSleepReq, if_pos ((s.portEmpty_iff p).mpr hempty), State.enterPower_eq, State.transmit_eq,
    State.setPort_setPort, State.port_setPort_self]

theorem State.judgeSleepReq_notEmpty {s : State} {p : Port} (hempty : ¬ PortEmpty s p) :
    s.judgeSleepReq p = s.setPort p (s.sentRecord (s.port p) .sleepNak) := by
  rw [State.judgeSleepReq, if_neg (mt (s.portEmpty_iff p).mp hempty), State.transmit_eq]

theorem State.takeSleepReq_empty {s : State} {p : Port} (hrun : (s.port p).state = .run)
    (hreq : (s.port p).handshake ≠ .sleepReq) (hempty : PortEmpty s p) :
    s.takeSleepReq p = s.setPort p ((s.sentRecord (s.undozed (s.port p)) .sleepAck).resting .sleep) := by
  obtain ⟨howed, hlist⟩ := s.undozed_lists (s.port p)
  rw [State.takeSleepReq_run hrun hreq, State.judgeSleepReq_empty ((portEmpty_setPort howed hlist).mpr hempty),
    State.setPort_setPort, State.port_setPort_self]
  rfl

theorem State.takeSleepReq_notEmpty {s : State} {p : Port} (hrun : (s.port p).state = .run)
    (hreq : (s.port p).handshake ≠ .sleepReq) (hempty : ¬ PortEmpty s p) :
    s.takeSleepReq p = s.setPort p (s.sentRecord (s.undozed (s.port p)) .sleepNak) := by
  obtain ⟨howed, hlist⟩ := s.undozed_lists (s.port p)
  rw [State.takeSleepReq_run hrun hreq, State.judgeSleepReq_notEmpty (mt (portEmpty_setPort howed hlist).mp hempty),
    State.setPort_setPort, State.port_setPort_self]
  rfl

theorem State.takeSleepReq_doze {s : State} {p : Port} (h : (s.port p).state = .doze) :
    s.takeSleepReq p = s.setPort p ((s.sentRecord (s.port p) .sleepAck).resting .sleep) := by
  simp only [State.takeSleepReq, h, State.enterPower_eq, State.transmit_eq, State.setPort_setPort, State.port_setPort_self]

theorem State.takeSleepReq_sleep {s : State} {p : Port} (h : (s.port p).state = .sleep) :
    s.takeSleepReq p = s.setPort p (s.sentRecord (s.port p) .sleepAck) := by
  simp only [State.takeSleepReq, h, State.transmit_eq]

theorem State.takeSleepReq_waking {s : State} {p : Port} (h : (s.port p).state = .waking) :
    s.takeSleepReq p = s.setPort p (s.sentRecord (s.port p) .sleepNak) := by
  simp only [State.takeSleepReq, h, State.transmit_eq]

/-- Settles O49: PORT_SLEEP by the port's state and its entries; SLEEP_ACK, SLEEP_NAK and SLEEP_REQ on the heard state. -/
theorem sleepHandshakeEntersSleep : Obligations.SleepHandshakeEntersSleep := by
  intro s p x h undozed
  refine ⟨fun tag w r hready hcode harg => ?_, fun hrun hreq => ⟨?_, ?_, ?_⟩, fun hst hnot => ⟨?_, ?_⟩,
    fun hrun hreq => ⟨fun hempty => ?_, fun hbusy => ?_⟩, fun hst => ?_, fun hst => ?_, fun hst => ?_⟩
  · have hexec : exec (.portSleep tag w) s = .next ((s.issued w).commandPortSleep.answered tag .ok []) :=
      exec_powerCommand_ready hready (.inl rfl) hcode harg
    rw [hexec]
    obtain ⟨-, -, rfl⟩ := hready
    refine ⟨fun hst => ?_, fun hrun hbusy => ?_, fun hrun hshake hnone => ?_⟩
    · rw [State.commandPortSleep_wrongState (s := s.issued w) harg hst]
    · rw [State.commandPortSleep_busy (s := s.issued w) harg hrun hbusy]
    · rw [State.commandPortSleep_sends (s := s.issued w) harg hrun hshake hnone]
      rfl
  · refine exec_expected rfl (.inl hrun) ?_
    rw [State.takeSleepAck_outstanding ((s.state_port_heard p).trans hrun) ((s.handshake_port_heard p).trans hreq),
      State.setPort_heard, State.port_heard_self]
  · refine exec_expected rfl (.inl hrun) ?_
    rw [State.takeSleepNak_outstanding ((s.state_port_heard p).trans hrun) ((s.handshake_port_heard p).trans hreq),
      State.setPort_heard, State.timed_heard, State.port_heard_self]
  · refine exec_expected rfl (.inl hrun) ?_
    rw [State.takeSleepReq_crossed ((s.state_port_heard p).trans hrun) ((s.handshake_port_heard p).trans hreq),
      State.setPort_heard, State.sentRecord_heard, State.port_heard_self]
  · exact exec_expected rfl hst (State.takeSleepAck_idle (by simpa using hnot))
  · exact exec_expected rfl hst (State.takeSleepNak_idle (by simpa using hnot))
  · refine exec_expected rfl (.inl hrun) ?_
    rw [State.takeSleepReq_empty ((s.state_port_heard p).trans hrun) (by simpa using hreq) ((portEmpty_heard s p).mpr hempty),
      State.setPort_heard, State.sentRecord_heard, State.undozed_heard, State.port_heard_self]
    rfl
  · refine exec_expected rfl (.inl hrun) ?_
    rw [State.takeSleepReq_notEmpty ((s.state_port_heard p).trans hrun) (by simpa using hreq)
      (mt (portEmpty_heard s p).mp hbusy), State.setPort_heard, State.sentRecord_heard, State.undozed_heard, State.port_heard_self]
    rfl
  · refine exec_expected rfl (.inr (.inl hst)) ?_
    rw [State.takeSleepReq_doze ((s.state_port_heard p).trans hst), State.setPort_heard, State.sentRecord_heard,
      State.port_heard_self]
  · refine exec_expected rfl (.inr (.inr (.inl hst))) ?_
    rw [State.takeSleepReq_sleep ((s.state_port_heard p).trans hst), State.setPort_heard, State.sentRecord_heard,
      State.port_heard_self]
  · refine exec_expected rfl (.inr (.inr (.inr hst))) ?_
    rw [State.takeSleepReq_waking ((s.state_port_heard p).trans hst), State.setPort_heard, State.sentRecord_heard,
      State.port_heard_self]

/-! ### PORT_WAKE (R132, R164) -/

theorem State.commandPortWake_run {s : State} {p : Port} (harg : s.latched.arg0.toNat = p.val) (h : (s.port p).state = .run) :
    s.commandPortWake = s.concluded 1 0 0 0 0 := by
  simp only [State.commandPortWake, portOf_eq harg, h]
  rfl

theorem State.commandPortWake_starts {s : State} {p : Port} (harg : s.latched.arg0.toNat = p.val)
    (h : (s.port p).state = .doze ∨ (s.port p).state = .sleep) : s.commandPortWake = s.setPort p (s.port p).afterWakeCause := by
  rcases h with h | h <;> simp only [State.commandPortWake, portOf_eq harg, h, State.wakeCause_eq]

theorem State.commandPortWake_wrongState {s : State} {p : Port} (harg : s.latched.arg0.toNat = p.val)
    (h : (s.port p).state ∈ [.off, .listen, .greet, .realign, .waking, .resetting, .fault]) :
    s.commandPortWake = s.concluded 2 15 0 0 0 := by
  simp only [State.commandPortWake, portOf_eq harg]
  split
  next hst => simp [hst] at h
  next hst => simp [hst] at h
  next hst => simp [hst] at h
  all_goals rfl

/-! ### The board's WAKE and WAKE_ACK (R129, R131, R133) -/

theorem State.takeWake_resting {s : State} {p : Port} (h : (s.port p).state = .doze ∨ (s.port p).state = .sleep) :
    s.takeWake p = s.setPort p (s.timed { s.sentRecord (s.port p) .wakeAck with state := .run }) := by
  have hwake : s.takeWake p = (s.transmit p .wakeAck).enterRun p := by
    rcases h with h | h <;> simp only [State.takeWake, h]
  rw [hwake, State.enterRun_eq, State.transmit_eq, State.setPort_setPort, State.port_setPort_self]
  rfl

theorem State.takeWake_run {s : State} {p : Port} (h : (s.port p).state = .run) :
    s.takeWake p = s.setPort p (s.sentRecord (s.port p) .wakeAck) := by
  simp only [State.takeWake, h, State.transmit_eq]

theorem State.takeWake_waking {s : State} {p : Port} (h : (s.port p).state = .waking) : s.takeWake p = s.endWake p := by
  simp only [State.takeWake, h]

theorem State.takeWakeAck_waking {s : State} {p : Port} (h : (s.port p).state = .waking) : s.takeWakeAck p = s.endWake p :=
  if_pos h

theorem State.takeWakeAck_idle {s : State} {p : Port} (h : (s.port p).state ≠ .waking) : s.takeWakeAck p = s :=
  if_neg h

theorem State.endWake_heard (s : State) (p : Port) :
    (s.heard p).endWake p = (s.setPort p (s.timed { s.heardRecord p with state := .run, wakeExitTimer := none })).ends 11 p 1 := by
  rw [State.endWake_eq, State.port_heard_self, State.timed_heard, State.setPort_heard]

/-- Settles O50: PORT_WAKE by the port's state, and WAKE and WAKE_ACK on the heard state. -/
theorem wakeReturnsPortToRun : Obligations.WakeReturnsPortToRun := by
  intro s p x h woken
  refine ⟨fun tag w r hready hcode harg => ?_, fun hst => ?_, fun hrun => ?_, fun hwaking => ⟨?_, ?_⟩, fun hst => ?_⟩
  · have hexec : exec (.portWake tag w) s = .next ((s.issued w).commandPortWake.answered tag .ok []) :=
      exec_powerCommand_ready hready (.inr rfl) hcode harg
    rw [hexec]
    obtain ⟨-, -, rfl⟩ := hready
    refine ⟨fun hrun => ?_, fun hst => ?_, fun hst => ?_⟩
    · rw [State.commandPortWake_run (s := s.issued w) harg hrun]
    · rw [State.commandPortWake_starts (s := s.issued w) harg hst]
      rfl
    · rw [State.commandPortWake_wrongState (s := s.issued w) harg hst]
  · refine exec_expected rfl (.inr (hst.imp_right .inl)) ?_
    rw [State.takeWake_resting (by simpa using hst), State.setPort_heard, State.timed_heard, State.sentRecord_heard,
      State.port_heard_self]
  · refine exec_expected rfl (.inl hrun) ?_
    rw [State.takeWake_run ((s.state_port_heard p).trans hrun), State.setPort_heard, State.sentRecord_heard, State.port_heard_self]
  · exact exec_expected rfl (.inr (.inr (.inr hwaking)))
      ((State.takeWake_waking ((s.state_port_heard p).trans hwaking)).trans (State.endWake_heard s p))
  · exact exec_expected rfl (.inr (.inr (.inr hwaking)))
      ((State.takeWakeAck_waking ((s.state_port_heard p).trans hwaking)).trans (State.endWake_heard s p))
  · have hawake : (s.port p).state ≠ .waking := by
      rcases hst with hst | hst | hst <;> simp [show (s.port p).state = _ from hst]
    exact exec_expected rfl (hst.imp_right (Or.imp_right .inl)) (State.takeWakeAck_idle (by simpa using hawake))

end Sys2Proof.Machine
end

section
/-! PROOFS. The checks of a host command on its code and arguments, and the two commands that look claims up: READ_CLAIM and FIND. -/

namespace Sys2Proof.Machine

open Sys2Proof

/-! ### The range of the arguments (R154, section 10.4) -/

theorem postingOfCode_eq_none_iff (code : Nat) : postingOfCode code = none ↔ code ≠ 1 ∧ code ≠ 2 := by
  unfold postingOfCode
  split <;> simp_all

theorem wakeOfCode_eq_none_iff (code : Nat) : wakeOfCode code = none ↔ code ≠ 1 ∧ code ≠ 2 := by
  unfold wakeOfCode
  split <;> simp_all

/-- HOST_CLAIM's arguments describe no owner where the kind is none of the two, or kind ROUTE has a bad posting or wake policy. -/
theorem HostClaimArgs.owner_eq_none_iff (a : HostClaimArgs) :
    a.owner = none ↔ (a.kindCode ≠ 1 ∧ a.kindCode ≠ 2) ∨
      (a.kindCode = 1 ∧ ((a.postingCode ≠ 1 ∧ a.postingCode ≠ 2) ∨ (a.wakeCode ≠ 1 ∧ a.wakeCode ≠ 2))) := by
  rw [← postingOfCode_eq_none_iff a.postingCode, ← wakeOfCode_eq_none_iff a.wakeCode]
  unfold HostClaimArgs.owner
  split
  next hkind => cases postingOfCode a.postingCode <;> cases wakeOfCode a.wakeCode <;> simp [hkind]
  next hkind => simp [hkind]
  next hroute hfence => exact iff_of_true rfl (.inl ⟨hroute, hfence⟩)

theorem toNat_wordByte_one (w : Word) : (wordByte w 1).toNat = w.toNat / 0x100 % 0x100 := by
  simp [wordByte, Nat.shiftRight_eq_div_pow]

theorem poolGood_eq_false_iff (sp : Space) (q : Pool) :
    poolGood sp q = false ↔
      q.first % sp.granule ≠ 0 ∨ (q.last + 1) % sp.granule ≠ 0 ∨ q.last < q.first ∨ sp.lastAddress < q.last := by
  simp only [poolGood, Bool.and_eq_false_iff, beq_eq_false_iff_ne, decide_eq_false_iff_not, not_le, or_assoc]

theorem timingRange_eq_false_iff (setting value : Nat) :
    timingRange setting value = false ↔ (setting ≠ 1 ∧ setting ≠ 2 ∧ setting ≠ 3) ∨
      (setting = 1 ∧ (value < 100 ∨ 65000 < value)) ∨ (setting = 2 ∧ 65000 < value) ∨
      (setting = 3 ∧ (value < 1 ∨ 7 < value)) := by
  unfold timingRange
  split
  case h_4 h1 h2 h3 => exact iff_of_true rfl (.inl ⟨h1, h2, h3⟩)
  all_goals
    simp only [Bool.and_eq_false_iff, decide_eq_false_iff_not, true_and]
    omega

/-- The model's check of the arguments is the table of R154. -/
theorem badArgument_iff (c : HostCommand) (r : CommandRecord) : badArgument c r = true ↔ ArgumentOutOfRange c r := by
  cases c with
  | hostClaim =>
    simp only [badArgument, Option.isNone_iff_eq_none, HostClaimArgs.owner_eq_none_iff, CommandRecord.hostClaimArgs,
      toNat_wordByte_one, ArgumentOutOfRange]
  | find =>
    simp only [badArgument, ArgumentOutOfRange]
    cases hsp : spaceOfCode r.arg0.toNat with
    | none => simp [(spaceOfCode_eq_none_iff _).mp hsp]
    | some sp =>
      rw [(spaceOfCode_eq_some_iff _ _).mp hsp, decide_eq_true_iff]
      have harg := r.arg1.isLt
      cases sp <;> simp only [Space.code, Space.lastAddress, true_and] <;> omega
  | setPool =>
    simp only [badArgument, ArgumentOutOfRange]
    cases hsp : spaceOfCode r.arg0.toNat with
    | none => simp [(spaceOfCode_eq_none_iff _).mp hsp]
    | some sp =>
      rw [(spaceOfCode_eq_some_iff _ _).mp hsp, Bool.not_eq_true', poolGood_eq_false_iff]
      have hlast := r.arg2.isLt
      cases sp <;> simp only [Space.code, Space.granule, Space.lastAddress, true_and] <;> omega
  | setTiming => simp only [badArgument, Bool.not_eq_true', timingRange_eq_false_iff, ArgumentOutOfRange]
  | readClaim | setQuota | setHold => simp only [badArgument, ArgumentOutOfRange, Bool.or_eq_true, decide_eq_true_iff]
  | hostRetire | revoke | portEnable | portDisable | portReset | portRetrain | portSleep | portWake =>
    simp only [badArgument, ArgumentOutOfRange, decide_eq_true_iff]

/-! ### The start of a command (R153, R154) -/

theorem HostCommand.ofCode_eq_none {code : Word} (h : code.toNat = 0 ∨ 15 < code.toNat) : HostCommand.ofCode code = none := by
  unfold HostCommand.ofCode
  split
  case h_16 => rfl
  all_goals omega

theorem State.startCommand_badCommand {s : State} (h : HostCommand.ofCode s.latched.code = none) :
    s.startCommand = s.concluded 3 0 0 0 0 := by
  simp only [State.startCommand, h]
  rfl

theorem State.startCommand_badArgument {s : State} {c : HostCommand} (h : HostCommand.ofCode s.latched.code = some c)
    (hbad : ArgumentOutOfRange c s.latched) : s.startCommand = s.concluded 4 0 0 0 0 := by
  simp only [State.startCommand, h, (badArgument_iff c s.latched).mpr hbad]
  rfl

theorem exec_issueRowOf_ready {s : State} {tag : HostTag} {w : IssueWrite} {r : CommandRecord} (h : IssueReady s tag w r)
    {c : Option HostCommand} (hc : HostCommand.ofCode r.code = c) :
    exec (issueRowOf c tag w) s = .next ((s.issued w).startCommand.answered tag .ok []) := by
  rw [exec_issueRowOf, State.issueRow_starts h hc]

/-- An issue write of a command whose arguments are in range: the command's own rule, answered OK. -/
theorem exec_command_ready {s : State} {tag : HostTag} {w : IssueWrite} {r : CommandRecord} (h : IssueReady s tag w r)
    {c : HostCommand} (hcode : r.code.toNat = c.code) (hgood : ¬ ArgumentOutOfRange c r) :
    exec (issueRowOf (some c) tag w) s = .next (((s.issued w).perform c).answered tag .ok []) := by
  rw [← badArgument_iff, Bool.not_eq_true] at hgood
  rw [exec_issueRowOf, State.issueRow_performs h (HostCommand.ofCode_eq_some hcode) hgood]

/-- Settles O22: the model's decoding of the code and its check of the arguments are R154's. -/
theorem codeAndArgumentsJudgedFirst : Obligations.CodeAndArgumentsJudgedFirst := by
  intro s tag w r hready
  obtain ⟨-, -, rfl⟩ := id hready
  refine ⟨fun hcode => ?_, fun c hcode => ⟨fun hbad => ?_, exec_command_ready hready hcode⟩⟩
  · have hnone := HostCommand.ofCode_eq_none hcode
    rw [show Instr.badCommand tag w = issueRowOf none tag w from rfl, exec_issueRowOf_ready hready hnone,
      State.startCommand_badCommand (s := s.issued w) hnone]
  · have hsome := HostCommand.ofCode_eq_some hcode
    rw [exec_issueRowOf_ready hready hsome, State.startCommand_badArgument (s := s.issued w) hsome hbad]

/-! ### FIND (R21, R162) -/

theorem State.commandFind_none {s : State} {sp : Space} (hsp : s.latched.arg0.toNat = sp.code)
    (h : s.lookup sp s.latched.arg1.toNat = none) : s.commandFind = s.concluded 1 0xFFFFFFFF 0 0 0 := by
  simp only [State.commandFind, (spaceOfCode_eq_some_iff _ _).mpr hsp, h]
  rfl

theorem State.commandFind_some {s : State} {sp : Space} {n : SlotNo} {c : Claim} (hsp : s.latched.arg0.toNat = sp.code)
    (h : s.lookup sp s.latched.arg1.toNat = some n) (hc : s.claim n = some c) :
    s.commandFind = s.concluded 1 (wordOf n.val) (wordOf c.phase.code) 0 0 := by
  simp only [State.commandFind, (spaceOfCode_eq_some_iff _ _).mpr hsp, h, hc]
  rfl

/-- An address of a space is in FIND's range. -/
theorem find_in_range {r : CommandRecord} {sp : Space} (hsp : r.arg0.toNat = sp.code) (haddr : r.arg1.toNat ≤ sp.lastAddress) :
    ¬ ArgumentOutOfRange .find r := by
  rw [← badArgument_iff]
  simpa only [badArgument, (spaceOfCode_eq_some_iff _ _).mpr hsp, decide_eq_true_iff, not_lt] using haddr

/-- Settles O28: under the overlap law the lookup finds the one claim that covers the address. -/
theorem findReturnsCoveringSlot : Obligations.FindReturnsCoveringSlot := by
  intro s tag w r sp hready hcode hsp haddr hoverlap
  have hexec : exec (.find tag w) s = .next ((s.issued w).commandFind.answered tag .ok []) :=
    exec_command_ready hready (c := .find) hcode (find_in_range hsp haddr)
  rw [hexec]
  obtain ⟨-, -, rfl⟩ := hready
  refine ⟨fun hnone => ?_, fun n c hn hcovers => ?_⟩
  · rw [State.commandFind_none (s := s.issued w) hsp (State.lookup_eq_none hnone)]
  · rw [State.commandFind_some (s := s.issued w) hsp (State.lookup_eq_some hoverlap hn hcovers) hn]
    cases c.phase <;> rfl

/-! ### The claim descriptor as a word of bit fields (R183, section 10.5) -/

theorem bitsOf_wordOf (v : Nat) {low width : Nat} (h : low + width ≤ 32) :
    bitsOf (wordOf v) low width = v / 2 ^ low % 2 ^ width := by
  simp only [bitsOf, wordOf, BitVec.toNat_ofNat]
  rw [← Nat.add_sub_of_le (Nat.le_of_add_right_le h), pow_add, Nat.mod_mul_right_div_self,
    Nat.mod_mod_of_dvd _ (pow_dvd_pow 2 (Nat.le_sub_of_add_le' h))]

/-- The fields of a descriptor, from bit 0 upward, each of the numbers that its bits hold; bits 15 and 31 belong to none. -/
structure DescriptorFields where
  presence : Fin 256
  state : Fin 8
  origin : Fin 4
  kind : Fin 4
  space : Fin 4
  port : Fin 8
  handle : Fin 16
  width : Fin 16
  posted : Fin 2
  nowake : Fin 2

/-- The descriptor that holds the fields. -/
def DescriptorFields.image (f : DescriptorFields) : Nat :=
  f.presence + f.state * 2 ^ 8 + f.origin * 2 ^ 11 + f.kind * 2 ^ 13 + f.space * 2 ^ 16 + f.port * 2 ^ 18 + f.handle * 2 ^ 21 +
    f.width * 2 ^ 25 + f.posted * 2 ^ 29 + f.nowake * 2 ^ 30

/-- The bits of a descriptor read the fields; `upper` is bits 18 to 30 together. -/
structure DescriptorFields.ReadFrom (f : DescriptorFields) (d : Word) : Prop where
  presence : bitsOf d 0 8 = f.presence
  state : bitsOf d 8 3 = f.state
  origin : bitsOf d 11 2 = f.origin
  kind : bitsOf d 13 2 = f.kind
  bit15 : bitsOf d 15 1 = 0
  space : bitsOf d 16 2 = f.space
  port : bitsOf d 18 3 = f.port
  handle : bitsOf d 21 4 = f.handle
  width : bitsOf d 25 4 = f.width
  posted : bitsOf d 29 1 = f.posted
  nowake : bitsOf d 30 1 = f.nowake
  bit31 : bitsOf d 31 1 = 0
  upper : bitsOf d 18 13 = f.port + f.handle * 2 ^ 3 + f.width * 2 ^ 7 + f.posted * 2 ^ 11 + f.nowake * 2 ^ 12

theorem DescriptorFields.readFrom_image (f : DescriptorFields) : f.ReadFrom (wordOf f.image) := by
  obtain ⟨presence, state, origin, kind, space, port, handle, width, posted, nowake⟩ := f
  constructor
  all_goals
    rw [bitsOf_wordOf _ (by decide), DescriptorFields.image]
    omega

/-! ### The fields of a claim's descriptor -/

/-- The posting bit of the attributes. -/
def Attributes.postedBit (a : Attributes) : Fin 2 := if a.posting = .posted then 1 else 0

/-- The wake policy bit of the attributes. -/
def Attributes.nowakeBit (a : Attributes) : Fin 2 := if a.wake = .nowake then 1 else 0

theorem Attributes.val_postedBit (a : Attributes) : (a.postedBit : Nat) = if a.posting = .posted then 1 else 0 :=
  apply_ite Fin.val _ _ _

theorem Attributes.val_nowakeBit (a : Attributes) : (a.nowakeBit : Nat) = if a.wake = .nowake then 1 else 0 :=
  apply_ite Fin.val _ _ _

theorem Attributes.image_eq (a : Attributes) :
    a.image = a.width % 16 * 2 ^ 25 + a.postedBit * 2 ^ 29 + a.nowakeBit * 2 ^ 30 := by
  rw [a.val_postedBit, a.val_nowakeBit, Attributes.image]
  cases a.posting <;> cases a.wake <;> rfl

theorem Claim.presence_eq (c : Claim) : c.presence = presenceMarks c := by
  unfold Claim.presence presenceMarks
  cases c.owner <;> cases c.phase <;> rfl

theorem presenceMarks_lt (c : Claim) : presenceMarks c < 256 := by
  unfold presenceMarks
  cases c.owner <;> cases c.phase <;> simp

theorem Phase.code_lt (ph : Phase) : ph.code < 8 := by
  cases ph <;> simp [Phase.code]

theorem spaceCode_lt (sp : Space) : sp.code < 4 := by
  cases sp <;> decide

/-- The fields of a claim's descriptor (section 10.5). -/
def Claim.fields (c : Claim) : DescriptorFields :=
  let presence : Fin 256 := ⟨presenceMarks c, presenceMarks_lt c⟩
  let state : Fin 8 := ⟨c.phase.code, c.phase.code_lt⟩
  let space : Fin 4 := ⟨c.space.code, spaceCode_lt c.space⟩
  match c.owner with
  | .fixed => ⟨presence, state, 1, 0, space, 0, 0, 0, 0, 0⟩
  | .fence => ⟨presence, state, 2, 2, space, 0, 0, 0, 0, 0⟩
  | .route p a => ⟨presence, state, 2, 1, space, p, 0, Fin.ofNat 16 a.width, a.postedBit, a.nowakeBit⟩
  | .board p h _ a => ⟨presence, state, 3, 0, space, p, h, Fin.ofNat 16 a.width, a.postedBit, a.nowakeBit⟩

theorem Claim.descriptor_eq (c : Claim) : c.descriptor = c.fields.image := by
  rw [Claim.descriptor, Claim.presence_eq, Claim.fields]
  cases c.owner
  all_goals
    simp only [Owner.image, DescriptorFields.image, Attributes.image_eq, Fin.val_ofNat]
    omega

/-- The unit width of a claim on a port fits in the descriptor's four bits (R1). -/
theorem WidthLaw.width_mod {s : State} (h : WidthLaw s) {n : SlotNo} {c : Claim} (hc : s.claim n = some c) {p : Port} {a : Attributes}
    (howner : c.owner = .route p a ∨ ∃ k y, c.owner = .board p k y a) : a.width % 16 = a.width := by
  have hwidth : a.width ∈ Space.widths c.space := by
    have hlaw := h n c hc
    rcases howner with howner | ⟨k, y, howner⟩ <;> simpa only [howner] using hlaw
  refine Nat.mod_eq_of_lt ?_
  cases hsp : c.space
  all_goals
    simp only [hsp, Space.widths, List.mem_cons, List.not_mem_nil, or_false] at hwidth
    omega

theorem WidthLaw.descriptorShows {s : State} (h : WidthLaw s) {n : SlotNo} {c : Claim} (hc : s.claim n = some c) :
    DescriptorShows (wordOf c.descriptor) c := by
  have hread := c.fields.readFrom_image
  rw [← Claim.descriptor_eq] at hread
  obtain ⟨owner, space, base, size, phase, inFlight⟩ := c
  cases owner with
  | fixed | fence =>
    exact ⟨hread.presence, hread.state, hread.origin, hread.kind, hread.bit15, hread.space, hread.bit31,
      hread.upper.trans (by simp [Claim.fields]), hread.handle⟩
  | route p a =>
    exact ⟨hread.presence, hread.state, hread.origin, hread.kind, hread.bit15, hread.space, hread.bit31,
      ⟨hread.port, hread.width.trans (h.width_mod hc (.inl rfl)), hread.posted.trans a.val_postedBit,
        hread.nowake.trans a.val_nowakeBit⟩,
      hread.handle⟩
  | board p k y a =>
    exact ⟨hread.presence, hread.state, hread.origin, hread.kind, hread.bit15, hread.space, hread.bit31,
      ⟨hread.port, hread.width.trans (h.width_mod hc (.inr ⟨k, y, rfl⟩)), hread.posted.trans a.val_postedBit,
        hread.nowake.trans a.val_nowakeBit⟩,
      hread.handle⟩

/-! ### READ_CLAIM (R161) -/

theorem slotOf_eq {w : Word} {n : SlotNo} (h : w.toNat = n.val) : slotOf w = n := by
  apply Fin.ext
  simp only [slotOf, h]
  omega

theorem wordOf_toNat (w : Word) : wordOf w.toNat = w :=
  (BitVec.ofNat_toNat 32 w).trans (BitVec.setWidth_eq w)

theorem State.commandReadClaim_free {s : State} {n : SlotNo} (harg : s.latched.arg0.toNat = n.val) (h : s.claim n = none) :
    s.commandReadClaim = s.concluded 1 0 0 0 0 := by
  simp only [State.commandReadClaim, slotOf_eq harg, h, imageWords]
  rfl

theorem State.commandReadClaim_part0 {s : State} {n : SlotNo} {c : Claim} (harg : s.latched.arg0.toNat = n.val)
    (h : s.claim n = some c) (hpart : s.latched.arg1.toNat = 0) :
    s.commandReadClaim = s.concluded 1 (wordOf c.descriptor) (wordOf c.base) (wordOf c.size) c.owner.identity := by
  simp only [State.commandReadClaim, slotOf_eq harg, h, hpart, imageWords, if_true, State.finishCommand_eq, wordOf_toNat]
  rfl

theorem State.commandReadClaim_part1 {s : State} {n : SlotNo} {c : Claim} (harg : s.latched.arg0.toNat = n.val)
    (h : s.claim n = some c) (hpart : s.latched.arg1.toNat ≠ 0) :
    s.commandReadClaim = s.concluded 1 (wordOf c.descriptor) (wordOf c.phase.pending.1) (wordOf c.phase.pending.2)
      (wordOf (c.inFlight % 64 + c.phase.causeCode * 2 ^ 8)) := by
  simp only [State.commandReadClaim, slotOf_eq harg, h, imageWords, if_neg hpart, State.finishCommand_eq]
  rfl

/-- Settles O27: the image words of the model are the record's fields, and the descriptor's bits read them back. -/
theorem readClaimReturnsImage : Obligations.ReadClaimReturnsImage := by
  intro s tag w r n part hready hcode hslot hpart hle hwidth
  have hexec : exec (.readClaim tag w) s = .next ((s.issued w).commandReadClaim.answered tag .ok []) := by
    refine exec_command_ready hready (c := .readClaim) hcode ?_
    simp only [ArgumentOutOfRange, hslot, hpart]
    omega
  rw [hexec]
  obtain ⟨-, -, rfl⟩ := hready
  refine ⟨fun hfree => ?_, fun c hc => ⟨wordOf c.descriptor, hwidth.descriptorShows hc, ?_⟩⟩
  · rw [State.commandReadClaim_free (s := s.issued w) hslot hfree]
  · by_cases h0 : part = 0
    · rw [if_pos h0, State.commandReadClaim_part0 (s := s.issued w) hslot hc (hpart.trans h0)]
      cases c.owner <;> rfl
    · rw [if_neg h0, State.commandReadClaim_part1 (s := s.issued w) hslot hc (hpart.trans_ne h0)]
      cases c.phase with
      | live | reshaping b z | orphaned => simp [Phase.pending, Phase.causeCode, wordOf]
      | draining cause => cases cause <;> simp [Phase.pending, Phase.causeCode, RetireCause.code, wordOf]

end Sys2Proof.Machine
end

section
/-! PROOFS. A NOTICE that arrives: stored, refused, or out of place (R97, R175). -/

namespace Sys2Proof.Machine

open Sys2Proof

theorem State.takeNotice_stored {s : State} {p : Port} (hrun : (s.port p).state = .run) (hnone : (s.port p).notice = none)
    (code : Byte) :
    s.takeNotice p code = s.portBecomes p (PortRecord.raising { s.port p with notice := some code } 0x800) := by
  simp [State.takeNotice, hrun, hnone, State.raisePort_eq, State.modifyPort_eq_setPort, PortRecord.raising, PortFlag.mark]

theorem State.takeNotice_pending {s : State} {p : Port} (hrun : (s.port p).state = .run) (hsome : (s.port p).notice ≠ none)
    (code : Byte) : s.takeNotice p code = s.setPort p (s.sentRecord (s.port p) .noticeNak) := by
  obtain ⟨old, hold⟩ := Option.ne_none_iff_exists'.mp hsome
  simp only [State.takeNotice, hrun, hold, State.transmit_eq]

theorem State.takeNotice_elsewhere {s : State} {p : Port} (hrun : (s.port p).state ≠ .run)
    (hopen : (s.port p).state.receiverOpen = true) (code : Byte) : s.takeNotice p code = s.protocolRaised p := by
  unfold State.takeNotice
  split
  case h_1 hst => exact absurd hst hrun
  case h_2 | h_3 | h_4 | h_5 | h_6 => exact State.protocolError_eq s p
  case h_7 hst | h_8 hst | h_9 hst | h_10 hst => simp [hst, PortState.receiverOpen] at hopen

theorem State.receiverOpen_of_arrives {s : State} {p : Port} {seq : Byte} (h : Arrives s p seq) :
    (s.port p).state.receiverOpen = true := by
  rcases h with h | h | ⟨h, -⟩
  · simp [h, PortState.receiverOpen]
  · simp [h, PortState.receiverOpen]
  · exact PortState.receiverOpen_of_comparing h

/-- Settles O51: the notice is judged in the state in which its number is taken, which keeps the port's state and its notice. -/
theorem noticeStoredOrRefused : Obligations.NoticeStoredOrRefused := by
  intro s p seq code harr
  have hexec : exec (.notice p seq code) s = .next ((s.judged p).takeNotice p code) :=
    congrArg Host.Outcome.next (State.receive_arrives harr fun t => t.takeNotice p code)
  have hkept : (s.heardRecord p).notice = (s.port p).notice := rfl
  dsimp only
  rw [hexec]
  refine ⟨fun hrun hnone => ?_, fun hrun hsome => ?_, fun hrun => ?_⟩
  · rw [State.judged_of_run hrun, State.takeNotice_stored (by simpa using hrun) (by simpa [hkept] using hnone)]
    simp [State.heard]
  · rw [State.judged_of_run hrun, State.takeNotice_pending (by simpa using hrun) (by simpa [hkept] using hsome)]
    simp
  · rw [State.takeNotice_elsewhere (by simpa using hrun) (by simpa using State.receiverOpen_of_arrives harr)]

end Sys2Proof.Machine
end

section
/-! PROOFS. ATTN after every step (R173). An operation either leaves the flags, the masks and ATTN as they are, or drives ATTN anew after
it has written them; so where ATTN follows its condition before a step, it does after. -/

namespace Sys2Proof.Machine

open Sys2Proof

/-! ### The property that is carried -/

/-- `AttnFollows` as a proposition of its own, which `simp` carries through an operation where it would rewrite with the equation. -/
structure AttnDriven (s : State) : Prop where
  follows : AttnFollows s

theorem State.attnCondition_iff (s : State) :
    s.attnCondition = true ↔ s.globalFlags &&& s.maskGlobal ≠ 0 ∨ ∃ p : Port, (s.port p).flags &&& s.maskPort ≠ 0 := by
  simp [State.attnCondition, mem_allPorts]

theorem attnDriven_iff (s : State) :
    AttnDriven s ↔
      (s.attn = true ↔ (s.globalFlags &&& s.maskGlobal ≠ 0 ∨ ∃ p : Port, (s.port p).flags &&& s.maskPort ≠ 0)) := by
  rw [← State.attnCondition_iff, ← Bool.eq_iff_iff]
  exact ⟨AttnDriven.follows, AttnDriven.mk⟩

/-! ### Operations that drive ATTN last -/

@[simp] theorem attnDriven_driveAttn (s : State) : AttnDriven s.driveAttn := ⟨rfl⟩
@[simp] theorem attnDriven_raiseGlobal (s : State) (f : GlobalFlag) : AttnDriven (s.raiseGlobal f) := ⟨rfl⟩
@[simp] theorem attnDriven_raisePort (s : State) (p : Port) (f : PortFlag) : AttnDriven (s.raisePort p f) := ⟨rfl⟩
@[simp] theorem attnDriven_protocolError (s : State) (p : Port) : AttnDriven (s.protocolError p) := ⟨rfl⟩
@[simp] theorem attnDriven_clearGlobal (s : State) (ones : Word) : AttnDriven (s.clearGlobal ones) := ⟨rfl⟩
@[simp] theorem attnDriven_clearPort (s : State) (p : Port) (ones : Word) : AttnDriven (s.clearPort p ones) := ⟨rfl⟩
@[simp] theorem attnDriven_writeMask (s : State) (v : Word) : AttnDriven (s.writeMask v) := ⟨rfl⟩
@[simp] theorem attnDriven_portBecomes (s : State) (p : Port) (x : PortRecord) : AttnDriven (s.portBecomes p x) := ⟨rfl⟩
@[simp] theorem attnDriven_countOut (s : State) (p : Port) : AttnDriven (s.countOut p) := ⟨rfl⟩
@[simp] theorem attnDriven_takeLateComplete (s : State) (p : Port) (m : CompleteMsg) : AttnDriven (s.takeLateComplete p m) := ⟨rfl⟩
@[simp] theorem attnDriven_finishCommand (s : State) (r : CommandResult) (w0 w1 w2 w3 : Nat) :
    AttnDriven (s.finishCommand r w0 w1 w2 w3) := ⟨rfl⟩
@[simp] theorem attnDriven_refuseCommand (s : State) (r : Reason) : AttnDriven (s.refuseCommand r) := ⟨rfl⟩
@[simp] theorem attnDriven_admitBoard (s : State) (n : SlotNo) (p : Port) (k : Handle) (y : Word) (a : Attributes) (sp : Space)
    (base size : Nat) : AttnDriven (s.admitBoard n p k y a sp base size) := ⟨rfl⟩

theorem attnDriven_acceptHello (s : State) (p : Port) (seq : Byte) (m : HelloMsg) : AttnDriven (s.acceptHello p seq m) := by
  rw [State.acceptHello_eq, State.sessionOpened_eq]
  exact attnDriven_portBecomes _ p _

/-! #### Host commands that finish at once (R155, R158, R161 to R163, R165 to R168) -/

@[simp] theorem attnDriven_commandHostClaim (s : State) : AttnDriven s.commandHostClaim := by
  unfold State.commandHostClaim
  dsimp only
  split
  · simp
  · split
    · simp
    · split_ifs
      case neg =>
        split
        · simp
        · split <;> simp
      all_goals simp

@[simp] theorem attnDriven_commandFind (s : State) : AttnDriven s.commandFind := by
  unfold State.commandFind
  split
  · simp
  · split
    · simp
    · split <;> simp

@[simp] theorem attnDriven_commandPortEnable (s : State) : AttnDriven s.commandPortEnable := by
  unfold State.commandPortEnable
  dsimp only
  split <;> simp

@[simp] theorem attnDriven_commandPortDisable (s : State) : AttnDriven s.commandPortDisable := by
  unfold State.commandPortDisable
  dsimp only
  split <;> simp

@[simp] theorem attnDriven_commandSetQuota (s : State) : AttnDriven s.commandSetQuota := by
  simp only [State.commandSetQuota]
  split <;> simp

@[simp] theorem attnDriven_commandSetPool (s : State) : AttnDriven s.commandSetPool := by
  unfold State.commandSetPool
  split <;> simp

@[simp] theorem attnDriven_commandSetTiming (s : State) : AttnDriven s.commandSetTiming := by
  unfold State.commandSetTiming
  dsimp only
  split <;> simp

section

variable {s : State} (h : AttnDriven s)

include h

namespace AttnDriven

/-! ### Writes that leave the flags -/

/-- ATTN's condition reads the flags and the masks alone. -/
theorem congr {t : State} (hattn : t.attn = s.attn) (hports : t.ports = s.ports) (hglobal : t.globalFlags = s.globalFlags)
    (hmaskGlobal : t.maskGlobal = s.maskGlobal) (hmaskPort : t.maskPort = s.maskPort) : AttnDriven t := by
  have hcond : t.attnCondition = s.attnCondition :=
    State.attnCondition_congr hglobal hmaskGlobal hmaskPort fun p => by rw [State.port, State.port, hports]
  exact ⟨hattn.trans (h.follows.trans hcond.symm)⟩

@[simp] theorem setClaim (n : SlotNo) (c : Option Claim) : AttnDriven (s.setClaim n c) := ⟨h.follows⟩
@[simp] theorem setEntry (n : EntryNo) (e : Option Entry) : AttnDriven (s.setEntry n e) := ⟨h.follows⟩
@[simp] theorem handOver (c : Completion) : AttnDriven (s.handOver c) := ⟨h.follows⟩
@[simp] theorem latch : AttnDriven s.latch := ⟨h.follows⟩

theorem setPort {p : Port} {x : PortRecord} (hx : x.flags = (s.port p).flags) : AttnDriven (s.setPort p x) :=
  ⟨State.attnFollows_setPort h.follows hx⟩

/-- Where the goal does not name `f` at once, the flags are compared by `by rfl`, which waits until it does. -/
@[simp] theorem modifyPort (p : Port) {f : PortRecord → PortRecord} (hf : ∀ x, (f x).flags = x.flags) :
    AttnDriven (s.modifyPort p f) :=
  h.setPort (hf _)

@[simp] theorem restartIdle (p : Port) : AttnDriven (s.restartIdle p) := by
  rw [State.restartIdle_eq]
  exact h.setPort rfl

@[simp] theorem transmit (p : Port) (m : OutMessage) : AttnDriven (s.transmit p m) := by
  rw [State.transmit_eq]
  exact h.setPort rfl

@[simp] theorem freeTags (p : Port) : AttnDriven (s.freeTags p) := h.modifyPort p fun _ => rfl
@[simp] theorem dropHead (p : Port) : AttnDriven (s.dropHead p) := h.modifyPort p fun _ => rfl

@[simp] theorem enterGreet (p : Port) : AttnDriven (s.enterGreet p) := by
  rw [State.enterGreet_eq]
  exact h.setPort rfl

@[simp] theorem enterPower (p : Port) (st : PortState) : AttnDriven (s.enterPower p st) := by
  rw [State.enterPower_eq]
  exact h.setPort rfl

@[simp] theorem enterRun (p : Port) : AttnDriven (s.enterRun p) := by
  rw [State.enterRun_eq]
  exact h.setPort rfl

@[simp] theorem endHandshake (p : Port) : AttnDriven (s.endHandshake p) := by
  rw [State.endHandshake_eq]
  exact h.setPort rfl

@[simp] theorem sendDozeReq (p : Port) : AttnDriven (s.sendDozeReq p) :=
  AttnDriven.transmit (h.modifyPort p fun _ => by rfl) p _

@[simp] theorem sendAlign (p : Port) : AttnDriven (s.sendAlign p) := by
  rw [State.sendAlign_eq]
  exact h.setPort rfl

@[simp] theorem wakeCause (p : Port) : AttnDriven (s.wakeCause p) := by
  rw [State.wakeCause_eq]
  exact h.setPort (PortRecord.flags_afterWakeCause _)

@[simp] theorem owe (p : Port) (m : OwedMessage) : AttnDriven (s.owe p m) := by
  unfold State.owe
  split
  · exact (h.modifyPort p fun _ => by rfl).wakeCause p
  · exact h

@[simp] theorem refuse (p : Port) (k : Handle) (r : Reason) : AttnDriven (s.refuse p k r) := h.owe p _

@[simp] theorem orphanClaims (p : Port) : AttnDriven (s.orphanClaims p) := by
  rw [State.orphanClaims_frame]
  exact h.congr rfl rfl rfl rfl rfl

@[simp] theorem wakeIfWork (p : Port) : AttnDriven (s.wakeIfWork p) := by
  unfold State.wakeIfWork
  split <;> simp [h]

@[simp] theorem increment (n : SlotNo) : AttnDriven (s.increment n) := by
  unfold State.increment
  split <;> simp [h]

/-! ### The end of an operation and of a claim (R9, R11, R12, R155) -/

@[simp] theorem reportEnd (c : HostCommand) (n : Nat) (r : CommandResult) (w : Nat) : AttnDriven (s.reportEnd c n r w) := by
  unfold State.reportEnd
  split <;> simp [h]

@[simp] theorem endLinkCommands (p : Port) : AttnDriven (s.endLinkCommands p) := by
  unfold State.endLinkCommands
  exact ((h.reportEnd _ _ _ _).reportEnd _ _ _ _).reportEnd _ _ _ _

@[simp] theorem endPowerCommand (p : Port) (x : PortRecord) : AttnDriven (s.endPowerCommand p x) := by
  unfold State.endPowerCommand
  split_ifs <;> simp [h]

@[simp] theorem commitReshape (n : SlotNo) (c : Claim) (base size : Nat) : AttnDriven (s.commitReshape n c base size) := by
  unfold State.commitReshape
  split <;> simp [h]

@[simp] theorem completeDrain (n : SlotNo) (c : Claim) (cause : RetireCause) : AttnDriven (s.completeDrain n c cause) := by
  unfold State.completeDrain
  cases c.owner <;> cases cause <;> simp [h]

@[simp] theorem settle (n : SlotNo) : AttnDriven (s.settle n) := by
  unfold State.settle
  split
  · exact h
  · split
    · split <;> simp [h]
    · exact h

@[simp] theorem decrement (n : SlotNo) : AttnDriven (s.decrement n) := by
  unfold State.decrement
  split <;> simp [h]

@[simp] theorem retireWhere (p : Port) (picks : Claim → Bool) : AttnDriven (s.retireWhere p picks) := by
  rw [State.retireWhere_eq_freed, State.freed]
  split
  · exact h
  · exact attnDriven_portBecomes _ p _

/-! ### Operations that end entries (R64, R79, R84 to R87) -/

theorem freeEntry (n : EntryNo) (e : Entry) : AttnDriven (s.freeEntry n e) := by
  unfold State.freeEntry
  exact ((h.modifyPort e.port fun _ => by rfl).setEntry n none).decrement e.slot

theorem finishEntry (n : EntryNo) (e : Entry) : AttnDriven (s.finishEntry n e) := by
  refine AttnDriven.freeEntry ?_ n e
  split
  · exact h.handOver _
  · split
    · exact attnDriven_raisePort s _ _
    · exact h

theorem endEntry (n : EntryNo) (e : Entry) (st : Status) : AttnDriven (s.endEntry n e st) := by
  unfold State.endEntry
  exact (h.modifyPort e.port fun _ => by rfl).finishEntry n _

@[simp] theorem endEntries (reaches : Entry → Bool) (st : Status) : AttnDriven (s.endEntries reaches st) := by
  refine List.foldlRecOn _ _ h fun u hu n _ => ?_
  split
  · split
    · exact hu.endEntry n _ st
    · exact hu
  · exact hu

@[simp] theorem purge (n : SlotNo) (st : Status) : AttnDriven (s.purge n st) := h.endEntries _ st

@[simp] theorem retrainEntries (p : Port) : AttnDriven (s.retrainEntries p) := by
  unfold State.retrainEntries
  exact (h.endEntries _ _).freeTags p

@[simp] theorem dropEntries (p : Port) : AttnDriven (s.dropEntries p) := by
  unfold State.dropEntries
  exact ((h.endEntries _ _).freeTags p).modifyPort p fun _ => by rfl

@[simp] theorem startDrain (n : SlotNo) (c : Claim) (cause : RetireCause) : AttnDriven (s.startDrain n c cause) := by
  unfold State.startDrain
  exact ((h.setClaim n _).purge n _).settle n

@[simp] theorem acceptReshape (n : SlotNo) (c : Claim) (base size : Nat) : AttnDriven (s.acceptReshape n c base size) := by
  unfold State.acceptReshape
  exact ((h.setClaim n _).purge n _).settle n

theorem hostResetEntries : AttnDriven s.hostResetEntries := by
  refine List.foldlRecOn _ _ h fun u hu n _ => ?_
  split
  · unfold State.hostResetEntry
    split
    · exact hu
    · split
      · exact hu.freeEntry n _
      · exact hu.setEntry n _
  · exact hu

/-! ### Greeting, REALIGN and the end of a session (R93, R99, R100, R103, R105, R107, R110, R112) -/

@[simp] theorem greetFailure (p : Port) : AttnDriven (s.greetFailure p) := by
  simp only [State.greetFailure]
  split <;> simp [h]

@[simp] theorem enterRealign (p : Port) : AttnDriven (s.enterRealign p) := by
  unfold State.enterRealign
  exact ((((h.modifyPort p fun _ => by rfl).endPowerCommand p _).retrainEntries p).modifyPort p fun _ => by rfl).sendAlign p

omit h in
@[simp] theorem linkLoss (p : Port) : AttnDriven (s.linkLoss p) := by
  unfold State.linkLoss
  exact (attnDriven_raisePort _ p .linkLost).endLinkCommands p

@[simp] theorem attemptFailure (p : Port) : AttnDriven (s.attemptFailure p) := by
  simp only [State.attemptFailure]
  split <;> simp [h]

@[simp] theorem closePort (p : Port) (st : PortState) (signalling : Timer) : AttnDriven (s.closePort p st signalling) := by
  unfold State.closePort
  exact ((h.modifyPort p fun _ => by rfl).dropEntries p).retireWhere p _

theorem losePartner (p : Port) : AttnDriven (s.losePartner p) := by
  unfold State.losePartner
  split <;> simp [h]

theorem badCheck (p : Port) : AttnDriven (s.badCheck p) := by
  unfold State.badCheck
  split <;> simp [h]

theorem takeHello (p : Port) (seq : Byte) (m : HelloMsg) : AttnDriven (s.takeHello p seq m) := by
  unfold State.takeHello
  split
  · split
    · exact attnDriven_acceptHello s p seq m
    · exact h.greetFailure p
  all_goals simp [h]

theorem returnToRun (p : Port) (seq : Byte) : AttnDriven (s.returnToRun p seq) := by
  unfold State.returnToRun
  exact ((h.modifyPort p fun _ => by rfl).enterRun p).reportEnd _ _ _ _

theorem takeAlignAck (p : Port) (seq : Byte) (y : Word) : AttnDriven (s.takeAlignAck p seq y) := by
  unfold State.takeAlignAck
  split
  · split
    · exact h.returnToRun p seq
    · exact linkLoss p
  all_goals exact h

/-- A message keeps what its own effect keeps, wherever it arrives (R95, R96). -/
theorem receive (p : Port) (seq : Byte) {act : State → State} (hact : ∀ u, AttnDriven u → AttnDriven (act u)) :
    AttnDriven (s.receive p seq act) := by
  unfold State.receive
  split
  case h_5 | h_6 => exact hact s h
  case h_7 | h_8 | h_9 | h_10 =>
    split
    · exact hact _ ((h.modifyPort p fun _ => by rfl).restartIdle p)
    · exact h.badCheck p
  all_goals exact h

/-! ### Pieces (R71, R74, R82) -/

theorem issuePiece (p : Port) (n : EntryNo) (e : Entry) (tag : PieceTag) : AttnDriven (s.issuePiece p n e tag) := by
  unfold State.issuePiece
  exact ((h.setEntry n _).modifyPort p fun _ => by rfl).transmit p _

theorem matchedComplete (p : Port) (n : EntryNo) (e : Entry) (m : CompleteMsg) : AttnDriven (s.matchedComplete p n e m) := by
  have hfinish {u : State} (hu : AttnDriven u) (d : Entry) :
      AttnDriven (if d.finished then u.finishEntry n d else u.setEntry n (some d)) := by
    split
    · exact hu.finishEntry n d
    · exact hu.setEntry n _
  refine hfinish ?_ _
  split
  · exact attnDriven_protocolError _ p
  · exact h.modifyPort p fun _ => by rfl

theorem takeComplete (p : Port) (m : CompleteMsg) : AttnDriven (s.takeComplete p m) := by
  unfold State.takeComplete
  split
  · exact attnDriven_protocolError s p
  · split
    · exact attnDriven_raisePort s p _
    · split
      · exact h.matchedComplete p _ _ m
      · exact attnDriven_raisePort s p _

/-! ### Claim messages (R25 to R33) -/

theorem queueClaimMessage (p : Port) (m : ClaimMessage) : AttnDriven (s.queueClaimMessage p m) := by
  unfold State.queueClaimMessage
  split <;> simp [h]

theorem judgeClaim (p : Port) (m : ClaimFields) : AttnDriven (s.judgeClaim p m) := by
  unfold State.judgeClaim
  split
  · simp [h]
  next sp _ =>
    generalize (if m.any then none else some m.base.toNat) = base
    dsimp only
    split_ifs
    case neg =>
      split
      · simp [h]
      · split <;> simp [h]
    all_goals simp [h]

theorem judgeReshapeOf (p : Port) (m : ReshapeFields) (n : SlotNo) (c : Claim) : AttnDriven (s.judgeReshapeOf p m n c) := by
  unfold State.judgeReshapeOf
  generalize (if m.any then none else some m.base.toNat) = base
  dsimp only
  split_ifs
  case neg => split <;> simp [h]
  all_goals simp [h]

theorem judgeReshape (p : Port) (m : ReshapeFields) : AttnDriven (s.judgeReshape p m) := by
  unfold State.judgeReshape
  split
  · exact h.refuse p _ _
  · split
    · exact h.refuse p _ _
    · exact h.judgeReshapeOf p m _ _

theorem judgeRelease (p : Port) (k : Handle) : AttnDriven (s.judgeRelease p k) := by
  unfold State.judgeRelease
  split
  · exact h.refuse p _ _
  · split
    · exact h.refuse p _ _
    · split
      · exact h.refuse p _ _
      · exact h.startDrain _ _ _

/-! ### Power and notices (R120 to R133, R175, R177) -/

theorem takeDozeAck (p : Port) : AttnDriven (s.takeDozeAck p) := by
  unfold State.takeDozeAck
  split <;> simp [h]

theorem takeDozeNak (p : Port) : AttnDriven (s.takeDozeNak p) := by
  unfold State.takeDozeNak
  split <;> simp [h]

@[simp] theorem judgeSleepReq (p : Port) : AttnDriven (s.judgeSleepReq p) := by
  unfold State.judgeSleepReq
  split <;> simp [h]

theorem takeSleepReq (p : Port) : AttnDriven (s.takeSleepReq p) := by
  unfold State.takeSleepReq
  split
  case h_1 =>
    split
    · exact h.judgeSleepReq p
    · exact (h.endHandshake p).judgeSleepReq p
    · exact h.transmit p _
  case h_2 => exact (h.transmit p _).enterPower p _
  case h_3 | h_4 => exact h.transmit p _
  all_goals exact h

theorem takeSleepAck (p : Port) : AttnDriven (s.takeSleepAck p) := by
  unfold State.takeSleepAck
  split
  · exact ((h.enterPower p _).reportEnd _ _ _ _).wakeIfWork p
  · exact h

theorem takeSleepNak (p : Port) : AttnDriven (s.takeSleepNak p) := by
  unfold State.takeSleepNak
  split
  · exact (h.endHandshake p).reportEnd _ _ _ _
  · exact h

@[simp] theorem endWake (p : Port) : AttnDriven (s.endWake p) := by
  unfold State.endWake
  exact ((h.modifyPort p fun _ => by rfl).enterRun p).reportEnd _ _ _ _

theorem takeWake (p : Port) : AttnDriven (s.takeWake p) := by
  unfold State.takeWake
  split <;> simp [h]

theorem takeWakeAck (p : Port) : AttnDriven (s.takeWakeAck p) := by
  unfold State.takeWakeAck
  split <;> simp [h]

theorem wakeFailure (p : Port) : AttnDriven (s.wakeFailure p) := by
  unfold State.wakeFailure
  exact ((h.endEntries _ _).reportEnd _ _ _ _).enterRealign p

theorem takeNotice (p : Port) (code : Byte) : AttnDriven (s.takeNotice p code) := by
  unfold State.takeNotice
  split
  · split <;> simp [h]
  all_goals simp [h]

theorem acknowledge (p : Port) : AttnDriven (s.acknowledge p) := by
  unfold State.acknowledge
  split
  · exact h
  · split <;> simp [h]

theorem writeAcknowledge (m v : Word) : AttnDriven (s.writeAcknowledge m v) := by
  unfold State.writeAcknowledge
  split_ifs
  · exact h
  · exact h.acknowledge _
  · exact h

/-! ### Host commands that a claim or a port ends, and window writes (R61, R153, R154, R159, R160, R163, R164) -/

@[simp] theorem commandHostRetire : AttnDriven s.commandHostRetire := by
  unfold State.commandHostRetire
  dsimp only
  split
  · simp
  · split
    · simp
    · split <;> simp [h]

@[simp] theorem commandRevoke : AttnDriven s.commandRevoke := by
  unfold State.commandRevoke
  dsimp only
  split
  · simp
  · split
    · simp
    · split
      case h_4 => split <;> simp [State.revokeOrphan, h]
      all_goals simp

@[simp] theorem commandPortReset : AttnDriven s.commandPortReset := by
  unfold State.commandPortReset
  dsimp only
  split <;> simp [h]

@[simp] theorem commandPortRetrain : AttnDriven s.commandPortRetrain := by
  unfold State.commandPortRetrain
  dsimp only
  split <;> simp [h]

@[simp] theorem commandPortSleep : AttnDriven s.commandPortSleep := by
  unfold State.commandPortSleep
  dsimp only
  split
  · split <;> simp [h]
  all_goals simp

@[simp] theorem commandPortWake : AttnDriven s.commandPortWake := by
  unfold State.commandPortWake
  dsimp only
  split <;> simp [h]

theorem perform (c : HostCommand) : AttnDriven (s.perform c) := by
  cases c <;> simp [State.perform, State.commandReadClaim, State.commandSetHold, h]

theorem startCommand : AttnDriven s.startCommand := by
  unfold State.startCommand
  split
  · exact attnDriven_finishCommand s _ _ _ _ _
  · split
    · exact attnDriven_finishCommand s _ _ _ _ _
    · exact h.perform _

theorem issue : AttnDriven s.issue := by
  unfold State.issue
  split
  · exact attnDriven_raiseGlobal s _
  all_goals exact h.latch.startCommand

theorem writeRegister (r : Register) (m v : Word) : AttnDriven (s.writeRegister r m v) := by
  cases r with
  | issue => exact h.issue
  | globalFlags => exact attnDriven_clearGlobal s _
  | mask => exact attnDriven_writeMask s _
  | portFlags p => exact attnDriven_clearPort s p _
  | noticeAcknowledge => exact h.writeAcknowledge m v
  | _ => exact ⟨h.follows⟩

theorem windowStore (offset : Nat) (data : List Byte) : AttnDriven (s.windowStore offset data) := by
  unfold State.windowStore
  split
  · exact h.writeRegister _ _ _
  · exact (h.writeRegister _ _ _).writeRegister _ _ _

/-! ### The router (R46, R49 to R57) -/

theorem serveWindow (r : Request) (k : AccessKind) : AttnDriven (s.serveWindow r k) := by
  cases k with
  | read => exact h.handOver _
  | write => exact (h.windowStore _ _).handOver _

theorem createEntry (place : EntryNo) (e : Entry) (tag : HostTag) : AttnDriven (s.createEntry place e tag) := by
  have hlisted : AttnDriven (((s.setEntry place (some e)).increment e.slot).modifyPort e.port fun x =>
      { x with issueList := x.issueList ++ [place] }) :=
    ((h.setEntry place _).increment e.slot).modifyPort e.port fun _ => rfl
  simp only [State.createEntry]
  split
  · exact ((hlisted.restartIdle e.port).wakeCause e.port).handOver _
  · exact (hlisted.restartIdle e.port).wakeCause e.port

theorem takeRequest (raw : HostRequest) : AttnDriven (s.takeRequest raw) := by
  have hanswer (st : Status) : AttnDriven (s.answer raw.decode st) := h.handOver _
  simp only [State.takeRequest]
  split_ifs
  case neg =>
    split
    · split
      · exact hanswer _
      · exact h.serveWindow _ _
      · split
        · exact hanswer _
        · exact h.createEntry _ _ _
    · exact hanswer _
  all_goals exact hanswer _

theorem routeNext : AttnDriven s.routeNext := by
  unfold State.routeNext
  split
  · exact h
  · split
    · split
      next => exact h
      next r rest _ => exact AttnDriven.takeRequest (s := { s with waiting := rest }) ⟨h.follows⟩ r
    · exact h

theorem hostArrival (r : HostRequest) : AttnDriven (s.hostArrival r) := by
  unfold State.hostArrival
  split
  · exact h
  · exact AttnDriven.routeNext (s := { s with waiting := s.waiting ++ [r] }) ⟨h.follows⟩

theorem issueRow (c : Option HostCommand) (tag : HostTag) (w : IssueWrite) : AttnDriven (s.issueRow c tag w) := by
  unfold State.issueRow
  split
  · exact h.hostArrival _
  · exact h

end AttnDriven

end

/-! ### Commands and steps -/

/-- ATTN is driven as R173 says after the outcome, if it is a next state. -/
def AttnAfter : Host.Outcome State Fault Refusal → Prop
  | .next t => AttnDriven t
  | .fault _ | .refused _ => True

theorem AttnAfter.ite {c : Prop} [Decidable c] {o o' : Host.Outcome State Fault Refusal} (h : AttnAfter o) (h' : AttnAfter o') :
    AttnAfter (if c then o else o') := by
  split
  · exact h
  · exact h'

/-- The reset values hold no flag and no mark, and the partners' presence is none of them (R174, R184). -/
theorem attnAfter_execPowerOnReset (winsel : BitVec 4) (s : State) : AttnAfter (execPowerOnReset winsel s) := by
  have hreset : AttnDriven (State.powerOn winsel) := by
    refine ⟨?_⟩
    change false = (State.powerOn winsel).attnCondition
    simp [State.attnCondition, State.powerOn, PortRecord.reset]
  have hkeep : AttnDriven ((State.powerOn winsel).keepPresence s) :=
    List.foldlRecOn _ _ hreset fun u hu p _ => hu.modifyPort p fun _ => by rfl
  exact ⟨hkeep.follows⟩

section

variable {s : State} (h : AttnDriven s)

include h

theorem attnAfter_execHostLinkReset : AttnAfter (execHostLinkReset s) := by
  unfold execHostLinkReset
  split
  · exact h
  · exact attnDriven_raiseGlobal _ _

theorem attnAfter_execCompletionSend : AttnAfter (execCompletionSend s) := by
  unfold execCompletionSend
  split <;> exact ⟨h.follows⟩

theorem attnAfter_execPresenceAppears (p : Port) : AttnAfter (execPresenceAppears p s) := by
  have hpresent : AttnDriven (s.modifyPort p fun x => { x with present := true }) := h.modifyPort p fun _ => by rfl
  exact .ite h (.ite (hpresent.enterGreet p) hpresent)

theorem attnAfter_execTakeClaim (p : Port) : AttnAfter (execTakeClaim p s) := by
  unfold execTakeClaim
  split
  · exact (h.dropHead p).judgeClaim p _
  all_goals exact h

theorem attnAfter_execTakeReshape (p : Port) : AttnAfter (execTakeReshape p s) := by
  unfold execTakeReshape
  split
  · exact (h.dropHead p).judgeReshape p _
  all_goals exact h

theorem attnAfter_execTakeRelease (p : Port) : AttnAfter (execTakeRelease p s) := by
  unfold execTakeRelease
  split
  · exact (h.dropHead p).judgeRelease p _
  all_goals exact h

theorem attnAfter_execOwedMessageSend (p : Port) : AttnAfter (execOwedMessageSend p s) := by
  refine .ite ?_ h
  split
  · exact h
  · exact (h.modifyPort p fun _ => by rfl).transmit p _

theorem attnAfter_execPieceIssue (p : Port) : AttnAfter (execPieceIssue p s) := by
  refine .ite ?_ h
  split
  · split
    · exact h.issuePiece p _ _ _
    · exact h
  all_goals exact h

theorem attnAfter_execCompletionTimerExpiry (n : EntryNo) : AttnAfter (execCompletionTimerExpiry n s) := by
  unfold execCompletionTimerExpiry
  split
  · exact h
  · exact .ite ((attnDriven_raisePort _ _ _).enterRealign _) h

theorem attnAfter_exec (i : Instr) : AttnAfter (exec i s) := by
  cases i with
  | powerOnReset w => exact attnAfter_execPowerOnReset w s
  | hostLinkUp => exact ⟨h.follows⟩
  | hostLinkReset => exact attnAfter_execHostLinkReset h
  | completionSend => exact attnAfter_execCompletionSend h
  | hostRequest | windowWrite | flagClear | maskWrite | noticeAcknowledge => exact h.hostArrival _
  | badCommand | hostClaim | hostRetire | revoke | readClaim | find | portEnable | portDisable | portReset | portRetrain
  | portSleep | portWake | setQuota | setHold | setPool | setTiming => exact h.issueRow _ _ _
  | presenceAppears p => exact attnAfter_execPresenceAppears h p
  | presenceLost p => exact .ite ((h.modifyPort p fun _ => by rfl).losePartner p) h
  | greetEntry p => exact .ite (h.enterGreet p) h
  | hello p seq m => exact h.receive p seq fun _ hu => hu.takeHello p seq m
  | greetTimerExpiry p => exact .ite (h.greetFailure p) h
  | badCheckMessage p => exact h.badCheck p
  | unknownMessage p seq => exact h.receive p seq fun u _ => attnDriven_protocolError u p
  | alignAck p seq y => exact h.receive p seq fun _ hu => hu.takeAlignAck p seq y
  | attemptTimerExpiry p => exact .ite (h.attemptFailure p) h
  | resetSignallingTimerExpiry p => exact .ite ((h.modifyPort p fun _ => by rfl).reportEnd _ _ _ _) h
  | claim p seq | reshape p seq | release p seq => exact h.receive p seq fun _ hu => hu.queueClaimMessage p _
  | takeClaim p => exact attnAfter_execTakeClaim h p
  | takeReshape p => exact attnAfter_execTakeReshape h p
  | takeRelease p => exact attnAfter_execTakeRelease h p
  | owedMessageSend p => exact attnAfter_execOwedMessageSend h p
  | pieceIssue p => exact attnAfter_execPieceIssue h p
  | complete p seq m => exact .ite (attnDriven_takeLateComplete s p m) (h.receive p seq fun _ hu => hu.takeComplete p m)
  | completionTimerExpiry n => exact attnAfter_execCompletionTimerExpiry h n
  | holdTimerExpiry p => exact .ite ((attnDriven_raisePort _ p _).modifyPort p fun _ => by rfl) h
  | dozeIdleTimerExpiry p => exact .ite (.ite (h.sendDozeReq p) (h.restartIdle p)) h
  | handshakeAnswerTimerExpiry p => exact .ite (h.enterRealign p) h
  | dozeAck p seq => exact h.receive p seq fun _ hu => hu.takeDozeAck p
  | dozeNak p seq => exact h.receive p seq fun _ hu => hu.takeDozeNak p
  | sleepReq p seq => exact h.receive p seq fun _ hu => hu.takeSleepReq p
  | sleepAck p seq => exact h.receive p seq fun _ hu => hu.takeSleepAck p
  | sleepNak p seq => exact h.receive p seq fun _ hu => hu.takeSleepNak p
  | wake p seq => exact h.receive p seq fun _ hu => hu.takeWake p
  | wakeAck p seq => exact h.receive p seq fun _ hu => hu.takeWakeAck p
  | wakeExitTimerExpiry p => exact .ite (h.wakeFailure p) h
  | notice p seq code => exact h.receive p seq fun _ hu => hu.takeNotice p code

/-- On an empty queue the router may take a request; otherwise the command at the front is taken (R46; log 3). -/
theorem attnAfter_step : AttnAfter (step s) := by
  unfold step
  split
  next => exact h.routeNext
  next c rest _ => exact attnAfter_exec (s := { s with pending := rest }) ⟨h.follows⟩ c

end

/-- Settles O52: the law is that ATTN equals its condition, which every step keeps. -/
theorem stepKeepsAttention : Obligations.StepKeepsAttention := by
  intro s t hbefore hstep
  have hafter : AttnAfter (step s) := attnAfter_step ((attnDriven_iff s).mpr hbefore)
  rw [hstep] at hafter
  exact (attnDriven_iff t).mp hafter

end Sys2Proof.Machine
end

section
/-! PROOFS. What the window reads after power-on reset, and what a board's frame is read back as. -/

namespace Sys2Proof.Machine

open Sys2Proof

/-! ### The window after power-on reset (R90, R150, R151, R174, R184) -/

theorem registerAt_resultWord (i : Fin 5) : registerAt (0x060 + 4 * i.val) = .resultWord i := by
  revert i; decide

@[simp] theorem CommandRecord.get_zero (i : Fin 5) : CommandRecord.zero.get i = 0 := by
  revert i; decide

@[simp] theorem ResultRecord.get_zero (i : Fin 5) : ResultRecord.zero.get i = 0 := by
  revert i; decide

theorem State.maskWord_zero {s : State} (hglobal : s.maskGlobal = 0) (hport : s.maskPort = 0) : s.maskWord = 0 := by
  rw [State.maskWord, hglobal, hport]
  decide

/-- The four status words of a port after power-on reset: LISTEN with nothing else, no identity, quota 8 with no claim, and the hold
time. -/
theorem PortRecord.statusWord_reset :
    PortRecord.reset.statusWord 0 = 1 ∧ PortRecord.reset.statusWord 1 = 0 ∧ PortRecord.reset.statusWord 2 = 0x800 ∧
      PortRecord.reset.statusWord 3 = 500 := by
  decide

/-- The window shows nothing of a port's presence. -/
@[simp] theorem PortRecord.statusWord_present (x : PortRecord) (b : Bool) (i : Fin 4) :
    PortRecord.statusWord { x with present := b } i = x.statusWord i := by
  fin_cases i <;> rfl

/-- The state after power-on reset: the reset values, with the queue and the partners of the state before (logs 7, 21). -/
def State.poweredOn (s : State) (winsel : BitVec 4) : State :=
  { State.powerOn winsel with ports := ((State.powerOn winsel).keepPresence s).ports, pending := s.pending }

theorem exec_powerOnReset (winsel : BitVec 4) (s : State) : exec (.powerOnReset winsel) s = .next (s.poweredOn winsel) :=
  execPowerOnReset_eq winsel s

theorem State.port_poweredOn (s : State) (winsel : BitVec 4) (p : Port) :
    (s.poweredOn winsel).port p = { PortRecord.reset with present := (s.port p).present } := by
  change ((State.powerOn winsel).keepPresence s).port p = _
  rw [State.keepPresence_port, State.port_powerOn]

/-- Settles O6: each word shows a part of the state, and power-on reset gives that part its reset value. -/
theorem powerOnResetWindowReads : Obligations.PowerOnResetWindowReads := by
  intro winsel s t hexec word
  obtain rfl : s.poweredOn winsel = t := by simpa [exec_powerOnReset] using hexec
  have hnotice : (s.poweredOn winsel).noticeWord = 0 :=
    State.noticeWord_none fun p => by rw [State.port_poweredOn]; rfl
  have hmask : (s.poweredOn winsel).maskWord = 0 := State.maskWord_zero rfl rfl
  have hcommand (i : Fin 5) : word (0x040 + 4 * i.val) = 0 :=
    (congrArg (s.poweredOn winsel).readRegister (registerAt_commandWord i)).trans (CommandRecord.get_zero i)
  have hresult (i : Fin 5) : word (0x060 + 4 * i.val) = 0 :=
    (congrArg (s.poweredOn winsel).readRegister (registerAt_resultWord i)).trans (ResultRecord.get_zero i)
  have hflags (p : Port) : word (0x110 + 4 * p.val) = 0 := by
    simp only [word, registerAt_portFlags, State.readRegister, State.port_poweredOn]
    rfl
  have hstatus (p : Port) (i : Fin 4) : ((s.poweredOn winsel).port p).statusWord i = PortRecord.reset.statusWord i := by
    rw [State.port_poweredOn, PortRecord.statusWord_present]
  have hports (p : Port) : word (0x200 + 0x10 * p.val) = 1 ∧ word (0x204 + 0x10 * p.val) = 0 ∧
      word (0x208 + 0x10 * p.val) = 0x800 ∧ word (0x20C + 0x10 * p.val) = 500 := by
    obtain ⟨h0, h1, h2, h3⟩ := registerAt_portStatus p
    simpa only [word, h0, h1, h2, h3, State.readRegister, hstatus] using PortRecord.statusWord_reset
  exact ⟨rfl, rfl, hcommand, rfl, rfl, hresult, rfl, hmask, hflags, hnotice, rfl, hports, rfl, rfl, rfl, rfl, rfl, rfl, rfl⟩

/-! ### The frames of the boards (R180 to R182) -/

theorem toNat_byteOf {n : Nat} (h : n < 256) : (byteOf n).toNat = n := by
  simp [byteOf]
  omega

/-- The check and the payload length of a frame are right, so that it is the command that its payload is. -/
theorem judgeFrame_frame {p : Port} {kind seq : Byte} {payload : List Byte} {c : Instr} (h : payload.length < 256)
    (hcommand : boardCommand p kind seq payload = some c) : judgeFrame p (frame kind seq payload) = c := by
  generalize hbody : kind :: byteOf payload.length :: seq :: 0 :: payload = body
  have hframe : frame kind seq payload = body ++ checkBytes body := by rw [← hbody]; rfl
  have hlong : ¬ (body ++ checkBytes body).length < 6 := by
    simp [← hbody, checkBytes]
  have hcut : (body ++ checkBytes body).length - 2 = body.length := by
    simp [checkBytes]
  rw [hframe, judgeFrame, if_neg hlong, hcut]
  simp only [List.take_left, List.drop_left, if_true]
  rw [← hbody]
  simp [judgeBody, toNat_byteOf h, hcommand]

@[simp] theorem handleOf_byteOf (h : Handle) : handleOf (byteOf h.val) = h := by
  ext
  simp only [handleOf, toNat_byteOf (show h.val < 256 by omega)]
  omega

theorem getLsbD_optionBits (any posted nowake : Bool) :
    (optionBits any posted nowake).getLsbD 0 = any ∧ (optionBits any posted nowake).getLsbD 1 = posted ∧
      (optionBits any posted nowake).getLsbD 2 = nowake := by
  revert any posted nowake; decide

/-! #### The payload of each message with one (section 10.3) -/

theorem boardCommand_hello (p : Port) (seq : Byte) (m : HelloMsg) :
    boardCommand p 0x41 seq (wordBytes m.identity ++ [m.credit, if m.dozeCapable then 1 else 0, m.revision, 0]) =
      some (.hello p seq m) := by
  have hdoze : (if m.dozeCapable then (1 : Byte) else 0).getLsbD 0 = m.dozeCapable := by cases m.dozeCapable <;> rfl
  calc
    _ = some (Instr.hello p seq ⟨wordOfBytes (wordBytes m.identity), m.credit,
          (if m.dozeCapable then (1 : Byte) else 0).getLsbD 0, m.revision⟩) := rfl
    _ = _ := by rw [wordOfBytes_wordBytes, hdoze]

theorem boardCommand_alignAck (p : Port) (seq : Byte) (y : Word) :
    boardCommand p 0x44 seq (wordBytes y) = some (.alignAck p seq y) :=
  congrArg (fun z => some (Instr.alignAck p seq z)) (wordOfBytes_wordBytes y)

theorem boardCommand_claim (p : Port) (seq : Byte) (m : ClaimFields) :
    boardCommand p 0x81 seq ([byteOf m.handle.val, m.spaceCode, m.width, optionBits m.any m.posted m.nowake] ++
      wordBytes m.base ++ wordBytes m.size) = some (.claim p seq m) := by
  obtain ⟨hany, hposted, hnowake⟩ := getLsbD_optionBits m.any m.posted m.nowake
  calc
    _ = some (Instr.claim p seq ⟨handleOf (byteOf m.handle.val), m.spaceCode, m.width,
          (optionBits m.any m.posted m.nowake).getLsbD 0, (optionBits m.any m.posted m.nowake).getLsbD 1,
          (optionBits m.any m.posted m.nowake).getLsbD 2, wordOfBytes (wordBytes m.base),
          wordOfBytes (wordBytes m.size)⟩) := rfl
    _ = _ := by rw [handleOf_byteOf, hany, hposted, hnowake, wordOfBytes_wordBytes, wordOfBytes_wordBytes]

theorem boardCommand_reshape (p : Port) (seq : Byte) (m : ReshapeFields) :
    boardCommand p 0x82 seq ([byteOf m.handle.val, 0, 0, optionBits m.any false false] ++ wordBytes m.base ++
      wordBytes m.size) = some (.reshape p seq m) := by
  obtain ⟨hany, -, -⟩ := getLsbD_optionBits m.any false false
  calc
    _ = some (Instr.reshape p seq ⟨handleOf (byteOf m.handle.val), (optionBits m.any false false).getLsbD 0,
          wordOfBytes (wordBytes m.base), wordOfBytes (wordBytes m.size)⟩) := rfl
    _ = _ := by rw [handleOf_byteOf, hany, wordOfBytes_wordBytes, wordOfBytes_wordBytes]

theorem boardCommand_release (p : Port) (seq : Byte) (h : Handle) :
    boardCommand p 0x83 seq [byteOf h.val, 0, 0, 0] = some (.release p seq h) :=
  congrArg (fun k => some (Instr.release p seq k)) (handleOf_byteOf h)

theorem boardCommand_complete (p : Port) (seq : Byte) {m : CompleteMsg} (h : m.data.length ≤ 8) :
    boardCommand p 0xC2 seq (m.tag :: m.result :: byteOf m.data.length :: 0 :: m.data) = some (.complete p seq m) :=
  if_pos ⟨(toNat_byteOf (by omega)).symm, h⟩

/-- Settles O59: each message's payload is the message, and its length and check are right. -/
theorem boardFramesAreReadBack : Obligations.BoardFramesAreReadBack := by
  intro c p bytes hwf hport hframe
  cases c <;> cases hport <;> cases hframe
  case hello seq m => exact judgeFrame_frame (by simp [wordBytes]) (boardCommand_hello p seq m)
  case alignAck seq y => exact judgeFrame_frame (by simp [wordBytes]) (boardCommand_alignAck p seq y)
  case dozeAck | dozeNak | sleepReq | sleepAck | sleepNak | wake | wakeAck | notice => exact judgeFrame_frame (by simp) rfl
  case claim seq m => exact judgeFrame_frame (by simp [wordBytes]) (boardCommand_claim p seq m)
  case reshape seq m => exact judgeFrame_frame (by simp [wordBytes]) (boardCommand_reshape p seq m)
  case release seq k => exact judgeFrame_frame (by simp) (boardCommand_release p seq k)
  case complete seq m =>
    have hdata : m.data.length ≤ 8 := of_decide_eq_true hwf
    exact judgeFrame_frame (by simp; omega) (boardCommand_complete p seq hdata)

end Sys2Proof.Machine
end

section
/-! PROOFS. The queue: every command answers a next state, and none touches the commands that wait (logs 2, 21). -/

namespace Sys2Proof.Machine

open Sys2Proof

/-! ### Operations without a choice -/

@[simp] theorem State.pending_raiseGlobal (s : State) (f : GlobalFlag) : (s.raiseGlobal f).pending = s.pending := rfl
@[simp] theorem State.pending_raisePort (s : State) (p : Port) (f : PortFlag) : (s.raisePort p f).pending = s.pending := rfl
@[simp] theorem State.pending_clearGlobal (s : State) (ones : Word) : (s.clearGlobal ones).pending = s.pending := rfl
@[simp] theorem State.pending_clearPort (s : State) (p : Port) (ones : Word) : (s.clearPort p ones).pending = s.pending := rfl
@[simp] theorem State.pending_writeMask (s : State) (v : Word) : (s.writeMask v).pending = s.pending := rfl
@[simp] theorem State.pending_portBecomes (s : State) (p : Port) (x : PortRecord) : (s.portBecomes p x).pending = s.pending := rfl
@[simp] theorem State.pending_protocolError (s : State) (p : Port) : (s.protocolError p).pending = s.pending := rfl
@[simp] theorem State.pending_restartIdle (s : State) (p : Port) : (s.restartIdle p).pending = s.pending := rfl
@[simp] theorem State.pending_transmit (s : State) (p : Port) (m : OutMessage) : (s.transmit p m).pending = s.pending := rfl
@[simp] theorem State.pending_sendAlign (s : State) (p : Port) : (s.sendAlign p).pending = s.pending := rfl
@[simp] theorem State.pending_enterRun (s : State) (p : Port) : (s.enterRun p).pending = s.pending := rfl
@[simp] theorem State.pending_endHandshake (s : State) (p : Port) : (s.endHandshake p).pending = s.pending := rfl
@[simp] theorem State.pending_enterPower (s : State) (p : Port) (st : PortState) : (s.enterPower p st).pending = s.pending := rfl
@[simp] theorem State.pending_freeTags (s : State) (p : Port) : (s.freeTags p).pending = s.pending := rfl
@[simp] theorem State.pending_stopHold (s : State) (p : Port) : (s.stopHold p).pending = s.pending := rfl
@[simp] theorem State.pending_countOut (s : State) (p : Port) : (s.countOut p).pending = s.pending := rfl
@[simp] theorem State.pending_retireNow (s : State) (n : SlotNo) (p : Port) : (s.retireNow n p).pending = s.pending := rfl
@[simp] theorem State.pending_latch (s : State) : s.latch.pending = s.pending := rfl
@[simp] theorem State.pending_finishCommand (s : State) (r : CommandResult) (w0 w1 w2 w3 : Nat) :
    (s.finishCommand r w0 w1 w2 w3).pending = s.pending := rfl
@[simp] theorem State.pending_refuseCommand (s : State) (r : Reason) : (s.refuseCommand r).pending = s.pending := rfl
@[simp] theorem State.pending_issuePiece (s : State) (p : Port) (n : EntryNo) (e : Entry) (tag : PieceTag) :
    (s.issuePiece p n e tag).pending = s.pending := rfl
@[simp] theorem State.pending_answer (s : State) (r : Request) (st : Status) : (s.answer r st).pending = s.pending := rfl

/-! ### Operations on one port or one claim (R9, R11, R36, R128, R155) -/

@[simp] theorem State.pending_setPool (s : State) (sp : Space) (q : Pool) : (s.setPool sp q).pending = s.pending := by
  cases sp <;> rfl

@[simp] theorem State.pending_wakeCause (s : State) (p : Port) : (s.wakeCause p).pending = s.pending := by
  rw [State.wakeCause_eq, State.pending_setPort]

@[simp] theorem State.pending_owe (s : State) (p : Port) (m : OwedMessage) : (s.owe p m).pending = s.pending := by
  unfold State.owe
  split <;> simp

@[simp] theorem State.pending_refuse (s : State) (p : Port) (h : Handle) (r : Reason) : (s.refuse p h r).pending = s.pending :=
  State.pending_owe ..

@[simp] theorem State.pending_reportEnd (s : State) (c : HostCommand) (n : Nat) (r : CommandResult) (w : Nat) :
    (s.reportEnd c n r w).pending = s.pending := by
  unfold State.reportEnd
  split <;> simp

@[simp] theorem State.pending_endLinkCommands (s : State) (p : Port) : (s.endLinkCommands p).pending = s.pending := by
  simp [State.endLinkCommands]

@[simp] theorem State.pending_endPowerCommand (s : State) (p : Port) (x : PortRecord) :
    (s.endPowerCommand p x).pending = s.pending := by
  unfold State.endPowerCommand
  split_ifs <;> simp

@[simp] theorem State.pending_admitBoard (s : State) (n : SlotNo) (p : Port) (h : Handle) (y : Word) (a : Attributes)
    (sp : Space) (base size : Nat) : (s.admitBoard n p h y a sp base size).pending = s.pending := by
  simp [State.admitBoard]

@[simp] theorem State.pending_increment (s : State) (n : SlotNo) : (s.increment n).pending = s.pending := by
  unfold State.increment
  split <;> simp

@[simp] theorem State.pending_commitReshape (s : State) (n : SlotNo) (c : Claim) (base size : Nat) :
    (s.commitReshape n c base size).pending = s.pending := by
  unfold State.commitReshape
  split <;> simp

@[simp] theorem State.pending_completeDrain (s : State) (n : SlotNo) (c : Claim) (cause : RetireCause) :
    (s.completeDrain n c cause).pending = s.pending := by
  unfold State.completeDrain
  cases c.owner <;> cases cause <;> simp

@[simp] theorem State.pending_settle (s : State) (n : SlotNo) : (s.settle n).pending = s.pending := by
  unfold State.settle
  split
  · rfl
  · split
    · split <;> simp
    · rfl

@[simp] theorem State.pending_decrement (s : State) (n : SlotNo) : (s.decrement n).pending = s.pending := by
  unfold State.decrement
  split <;> simp

/-! ### Walks over ports, slots and entries (R64, R79, R84 to R87, R137 to R145) -/

theorem State.pending_foldl {α : Type} {f : State → α → State} (hf : ∀ s x, (f s x).pending = s.pending) (l : List α)
    (s : State) : (l.foldl f s).pending = s.pending := by
  induction l generalizing s with
  | nil => rfl
  | cons x l ih => exact (ih (f s x)).trans (hf s x)

@[simp] theorem State.pending_freeEntry (s : State) (n : EntryNo) (e : Entry) : (s.freeEntry n e).pending = s.pending := by
  simp [State.freeEntry]

@[simp] theorem State.pending_finishEntry (s : State) (n : EntryNo) (e : Entry) : (s.finishEntry n e).pending = s.pending := by
  simp only [State.finishEntry, State.pending_freeEntry]
  split
  · simp
  · split <;> simp

@[simp] theorem State.pending_endEntry (s : State) (n : EntryNo) (e : Entry) (st : Status) :
    (s.endEntry n e st).pending = s.pending := by
  simp [State.endEntry]

@[simp] theorem State.pending_endEntries (s : State) (reaches : Entry → Bool) (st : Status) :
    (s.endEntries reaches st).pending = s.pending := by
  refine State.pending_foldl (fun u n => ?_) allEntries s
  split
  · split <;> simp
  · rfl

@[simp] theorem State.pending_purge (s : State) (n : SlotNo) (st : Status) : (s.purge n st).pending = s.pending :=
  State.pending_endEntries ..

@[simp] theorem State.pending_retrainEntries (s : State) (p : Port) : (s.retrainEntries p).pending = s.pending := by
  simp [State.retrainEntries]

@[simp] theorem State.pending_dropEntries (s : State) (p : Port) : (s.dropEntries p).pending = s.pending := by
  simp [State.dropEntries]

@[simp] theorem State.pending_startDrain (s : State) (n : SlotNo) (c : Claim) (cause : RetireCause) :
    (s.startDrain n c cause).pending = s.pending := by
  simp [State.startDrain]

@[simp] theorem State.pending_acceptReshape (s : State) (n : SlotNo) (c : Claim) (base size : Nat) :
    (s.acceptReshape n c base size).pending = s.pending := by
  simp [State.acceptReshape]

@[simp] theorem State.pending_hostResetEntries (s : State) : s.hostResetEntries.pending = s.pending := by
  refine State.pending_foldl (fun u n => ?_) allEntries s
  split
  · unfold State.hostResetEntry
    split
    · rfl
    · split <;> simp
  · rfl

@[simp] theorem State.pending_retireWhere (s : State) (p : Port) (picks : Claim → Bool) :
    (s.retireWhere p picks).pending = s.pending := by
  refine State.pending_foldl (fun u n => ?_) allSlots s
  split
  · split <;> simp
  · rfl

@[simp] theorem State.pending_orphanClaims (s : State) (p : Port) : (s.orphanClaims p).pending = s.pending := by
  rw [State.orphanClaims_frame]

@[simp] theorem State.pending_resumeClaims (s : State) (slots : List SlotNo) : (s.resumeClaims slots).pending = s.pending := by
  rw [State.resumeClaims_frame]

@[simp] theorem State.pending_stopIdleTimers (s : State) : s.stopIdleTimers.pending = s.pending := by
  rw [State.stopIdleTimers_frame]

@[simp] theorem State.pending_holdOrphans (s : State) (p : Port) : (s.holdOrphans p).pending = s.pending := by
  unfold State.holdOrphans
  split_ifs <;> simp

/-! ### Sessions (R99, R100, R103 to R113) -/

@[simp] theorem State.pending_enterRealign (s : State) (p : Port) : (s.enterRealign p).pending = s.pending := by
  simp [State.enterRealign]

@[simp] theorem State.pending_linkLoss (s : State) (p : Port) : (s.linkLoss p).pending = s.pending := by
  simp [State.linkLoss]

@[simp] theorem State.pending_closePort (s : State) (p : Port) (st : PortState) (signalling : Timer) :
    (s.closePort p st signalling).pending = s.pending := by
  simp [State.closePort]

@[simp] theorem State.pending_greetFailure (s : State) (p : Port) : (s.greetFailure p).pending = s.pending := by
  simp only [State.greetFailure]
  split <;> simp

@[simp] theorem State.pending_attemptFailure (s : State) (p : Port) : (s.attemptFailure p).pending = s.pending := by
  simp only [State.attemptFailure]
  split <;> simp

@[simp] theorem State.pending_badCheck (s : State) (p : Port) : (s.badCheck p).pending = s.pending := by
  unfold State.badCheck
  split <;> simp

@[simp] theorem State.pending_losePartner (s : State) (p : Port) : (s.losePartner p).pending = s.pending := by
  unfold State.losePartner
  split <;> simp

@[simp] theorem State.pending_resolveOrphans (s : State) (p : Port) (y : Word) :
    (s.resolveOrphans p y).pending = s.pending := by
  unfold State.resolveOrphans
  split_ifs <;> simp

theorem State.pending_acceptHello (s : State) (p : Port) (seq : Byte) (m : HelloMsg) :
    (s.acceptHello p seq m).pending = s.pending := by
  rw [State.acceptHello_eq, State.sessionOpened_eq]
  simp

/-- A message leaves the queue where its own effect does, wherever it arrives (R95, R96). -/
theorem State.pending_receive (s : State) (p : Port) (seq : Byte) {act : State → State}
    (hact : ∀ u, (act u).pending = u.pending) : (s.receive p seq act).pending = s.pending := by
  unfold State.receive
  split
  case h_5 | h_6 => exact hact s
  case h_7 | h_8 | h_9 | h_10 => split <;> simp [hact]
  all_goals rfl

/-! ### What a board's message does -/

theorem State.pending_takeHello (s : State) (p : Port) (seq : Byte) (m : HelloMsg) :
    (s.takeHello p seq m).pending = s.pending := by
  unfold State.takeHello
  split
  · split <;> simp [State.pending_acceptHello]
  all_goals simp

theorem State.pending_takeAlignAck (s : State) (p : Port) (seq : Byte) (y : Word) :
    (s.takeAlignAck p seq y).pending = s.pending := by
  unfold State.takeAlignAck
  split
  · split <;> simp [State.returnToRun]
  all_goals rfl

theorem State.pending_matchedComplete (s : State) (p : Port) (n : EntryNo) (e : Entry) (m : CompleteMsg) :
    (s.matchedComplete p n e m).pending = s.pending := by
  simp only [State.matchedComplete]
  split_ifs <;> simp

theorem State.pending_takeComplete (s : State) (p : Port) (m : CompleteMsg) : (s.takeComplete p m).pending = s.pending := by
  unfold State.takeComplete
  split
  · simp
  · split
    · simp
    · split <;> simp [State.pending_matchedComplete]

theorem State.pending_queueClaimMessage (s : State) (p : Port) (m : ClaimMessage) :
    (s.queueClaimMessage p m).pending = s.pending := by
  unfold State.queueClaimMessage
  split <;> simp

@[simp] theorem State.pending_wakeIfWork (s : State) (p : Port) : (s.wakeIfWork p).pending = s.pending := by
  unfold State.wakeIfWork
  split <;> simp

theorem State.pending_takeDozeAck (s : State) (p : Port) : (s.takeDozeAck p).pending = s.pending := by
  unfold State.takeDozeAck
  split <;> simp

theorem State.pending_takeDozeNak (s : State) (p : Port) : (s.takeDozeNak p).pending = s.pending := by
  unfold State.takeDozeNak
  split <;> simp

@[simp] theorem State.pending_judgeSleepReq (s : State) (p : Port) : (s.judgeSleepReq p).pending = s.pending := by
  unfold State.judgeSleepReq
  split <;> simp

theorem State.pending_takeSleepReq (s : State) (p : Port) : (s.takeSleepReq p).pending = s.pending := by
  unfold State.takeSleepReq
  split
  · split <;> simp
  all_goals simp

theorem State.pending_takeSleepAck (s : State) (p : Port) : (s.takeSleepAck p).pending = s.pending := by
  unfold State.takeSleepAck
  split <;> simp

theorem State.pending_takeSleepNak (s : State) (p : Port) : (s.takeSleepNak p).pending = s.pending := by
  unfold State.takeSleepNak
  split <;> simp

@[simp] theorem State.pending_endWake (s : State) (p : Port) : (s.endWake p).pending = s.pending := by
  simp [State.endWake]

theorem State.pending_takeWake (s : State) (p : Port) : (s.takeWake p).pending = s.pending := by
  unfold State.takeWake
  split <;> simp

theorem State.pending_takeWakeAck (s : State) (p : Port) : (s.takeWakeAck p).pending = s.pending := by
  unfold State.takeWakeAck
  split <;> simp

theorem State.pending_takeNotice (s : State) (p : Port) (code : Byte) : (s.takeNotice p code).pending = s.pending := by
  unfold State.takeNotice
  split
  · split <;> simp
  all_goals simp

/-! ### Claim messages taken (R26 to R33) -/

theorem State.pending_judgeClaim (s : State) (p : Port) (m : ClaimFields) : (s.judgeClaim p m).pending = s.pending := by
  unfold State.judgeClaim
  split
  · simp
  · generalize (if m.any then none else some m.base.toNat) = base
    dsimp only
    split_ifs
    case neg =>
      split
      · simp
      · split <;> simp
    all_goals simp

theorem State.pending_judgeReshapeOf (s : State) (p : Port) (m : ReshapeFields) (n : SlotNo) (c : Claim) :
    (s.judgeReshapeOf p m n c).pending = s.pending := by
  unfold State.judgeReshapeOf
  generalize (if m.any then none else some m.base.toNat) = base
  dsimp only
  split_ifs
  case neg => split <;> simp
  all_goals simp

theorem State.pending_judgeReshape (s : State) (p : Port) (m : ReshapeFields) : (s.judgeReshape p m).pending = s.pending := by
  unfold State.judgeReshape
  split
  · simp
  · split <;> simp [State.pending_judgeReshapeOf]

theorem State.pending_judgeRelease (s : State) (p : Port) (h : Handle) : (s.judgeRelease p h).pending = s.pending := by
  unfold State.judgeRelease
  split
  · simp
  · split
    · simp
    · split <;> simp

/-! ### Host commands (R154, R158 to R168) -/

@[simp] theorem State.pending_commandHostClaim (s : State) : s.commandHostClaim.pending = s.pending := by
  unfold State.commandHostClaim
  dsimp only
  split
  · simp
  · split
    · simp
    · split_ifs
      case neg =>
        split
        · simp
        · split <;> simp
      all_goals simp

@[simp] theorem State.pending_commandHostRetire (s : State) : s.commandHostRetire.pending = s.pending := by
  unfold State.commandHostRetire
  dsimp only
  split
  · simp
  · split
    · simp
    · split <;> simp

@[simp] theorem State.pending_revokeOrphan (s : State) (n : SlotNo) (p : Port) : (s.revokeOrphan n p).pending = s.pending := by
  simp only [State.revokeOrphan, State.pending_finishCommand]
  split <;> simp

@[simp] theorem State.pending_commandRevoke (s : State) : s.commandRevoke.pending = s.pending := by
  unfold State.commandRevoke
  dsimp only
  split
  · simp
  · split
    · simp
    · split
      case h_4 => split <;> simp
      all_goals simp

@[simp] theorem State.pending_commandFind (s : State) : s.commandFind.pending = s.pending := by
  unfold State.commandFind
  split
  · simp
  · split
    · simp
    · split <;> simp

@[simp] theorem State.pending_commandPortEnable (s : State) : s.commandPortEnable.pending = s.pending := by
  unfold State.commandPortEnable
  dsimp only
  split <;> simp

@[simp] theorem State.pending_commandPortDisable (s : State) : s.commandPortDisable.pending = s.pending := by
  unfold State.commandPortDisable
  dsimp only
  split <;> simp

@[simp] theorem State.pending_commandPortReset (s : State) : s.commandPortReset.pending = s.pending := by
  unfold State.commandPortReset
  dsimp only
  split <;> simp

@[simp] theorem State.pending_commandPortRetrain (s : State) : s.commandPortRetrain.pending = s.pending := by
  unfold State.commandPortRetrain
  dsimp only
  split <;> simp

@[simp] theorem State.pending_commandPortSleep (s : State) : s.commandPortSleep.pending = s.pending := by
  unfold State.commandPortSleep
  dsimp only
  split
  · split <;> simp
  all_goals simp

@[simp] theorem State.pending_commandPortWake (s : State) : s.commandPortWake.pending = s.pending := by
  unfold State.commandPortWake
  dsimp only
  split <;> simp

@[simp] theorem State.pending_commandSetQuota (s : State) : s.commandSetQuota.pending = s.pending := by
  simp only [State.commandSetQuota]
  split <;> simp

@[simp] theorem State.pending_commandSetPool (s : State) : s.commandSetPool.pending = s.pending := by
  unfold State.commandSetPool
  split <;> simp

@[simp] theorem State.pending_commandSetTiming (s : State) : s.commandSetTiming.pending = s.pending := by
  unfold State.commandSetTiming
  dsimp only
  split
  case h_2 => split <;> simp
  all_goals simp

theorem State.pending_perform (s : State) (c : HostCommand) : (s.perform c).pending = s.pending := by
  cases c <;> simp [State.perform, State.commandReadClaim, State.commandSetHold]

@[simp] theorem State.pending_startCommand (s : State) : s.startCommand.pending = s.pending := by
  unfold State.startCommand
  split
  · simp
  · split <;> simp [State.pending_perform]

/-! ### Window writes and requests (R46 to R61, R153, R177) -/

@[simp] theorem State.pending_issue (s : State) : s.issue.pending = s.pending := by
  unfold State.issue
  split <;> simp

theorem State.pending_acknowledge (s : State) (p : Port) : (s.acknowledge p).pending = s.pending := by
  unfold State.acknowledge
  split
  · rfl
  · split <;> simp

@[simp] theorem State.pending_writeAcknowledge (s : State) (m v : Word) : (s.writeAcknowledge m v).pending = s.pending := by
  unfold State.writeAcknowledge
  split_ifs <;> simp [State.pending_acknowledge]

@[simp] theorem State.pending_writeRegister (s : State) (r : Register) (m v : Word) :
    (s.writeRegister r m v).pending = s.pending := by
  cases r <;> simp [State.writeRegister]

@[simp] theorem State.pending_windowStore (s : State) (offset : Nat) (data : List Byte) :
    (s.windowStore offset data).pending = s.pending := by
  unfold State.windowStore
  split <;> simp

theorem State.pending_serveWindow (s : State) (r : Request) (k : AccessKind) : (s.serveWindow r k).pending = s.pending := by
  cases k <;> simp [State.serveWindow]

theorem State.pending_createEntry (s : State) (place : EntryNo) (e : Entry) (tag : HostTag) :
    (s.createEntry place e tag).pending = s.pending := by
  simp only [State.createEntry]
  split <;> simp

theorem State.pending_takeRequest (s : State) (raw : HostRequest) : (s.takeRequest raw).pending = s.pending := by
  simp only [State.takeRequest]
  split_ifs
  case neg =>
    split
    · split
      · simp
      · exact State.pending_serveWindow ..
      · split
        · simp
        · exact State.pending_createEntry ..
    · simp
  all_goals simp

theorem State.pending_routeNext (s : State) : s.routeNext.pending = s.pending := by
  unfold State.routeNext
  split
  · rfl
  · split
    · split
      · rfl
      · exact State.pending_takeRequest ..
    · rfl

theorem State.pending_hostArrival (s : State) (r : HostRequest) : (s.hostArrival r).pending = s.pending := by
  unfold State.hostArrival
  split
  · rfl
  · exact State.pending_routeNext _

theorem State.pending_issueRow (s : State) (c : Option HostCommand) (tag : HostTag) (w : IssueWrite) :
    (s.issueRow c tag w).pending = s.pending := by
  unfold State.issueRow
  split
  · exact State.pending_hostArrival ..
  · rfl

/-! ### Commands -/

/-- The outcome is a next state, with the queue of `s`. -/
def QueueKept (s : State) (o : Host.Outcome State Fault Refusal) : Prop :=
  ∃ t, o = .next t ∧ t.pending = s.pending

theorem QueueKept.next {s t : State} (h : t.pending = s.pending) : QueueKept s (.next t) :=
  ⟨t, rfl, h⟩

/-- A happening that cannot be taken changes nothing (log 2). -/
theorem QueueKept.idle (s : State) : QueueKept s (.next s) :=
  .next rfl

/-- A command that is taken under a condition. -/
theorem QueueKept.ite {s : State} {c : Prop} [Decidable c] {o o' : Host.Outcome State Fault Refusal} (h : QueueKept s o)
    (h' : QueueKept s o') : QueueKept s (if c then o else o') := by
  split
  · exact h
  · exact h'

theorem queueKept_receive {s : State} {p : Port} {seq : Byte} {act : State → State}
    (hact : ∀ u, (act u).pending = u.pending) : QueueKept s (.next (s.receive p seq act)) :=
  .next (s.pending_receive p seq hact)

theorem queueKept_hostLinkReset (s : State) : QueueKept s (execHostLinkReset s) := by
  unfold execHostLinkReset
  split
  · exact .idle s
  · exact .next (by simp)

theorem queueKept_completionSend (s : State) : QueueKept s (execCompletionSend s) := by
  unfold execCompletionSend
  split <;> exact .next rfl

theorem queueKept_takeClaim (p : Port) (s : State) : QueueKept s (execTakeClaim p s) := by
  unfold execTakeClaim
  split
  · exact .next (State.pending_judgeClaim ..)
  all_goals exact .idle s

theorem queueKept_takeReshape (p : Port) (s : State) : QueueKept s (execTakeReshape p s) := by
  unfold execTakeReshape
  split
  · exact .next (State.pending_judgeReshape ..)
  all_goals exact .idle s

theorem queueKept_takeRelease (p : Port) (s : State) : QueueKept s (execTakeRelease p s) := by
  unfold execTakeRelease
  split
  · exact .next (State.pending_judgeRelease ..)
  all_goals exact .idle s

theorem queueKept_owedMessageSend (p : Port) (s : State) : QueueKept s (execOwedMessageSend p s) := by
  refine .ite ?_ (.idle s)
  split
  · exact .idle s
  · exact .next (by simp)

theorem queueKept_pieceIssue (p : Port) (s : State) : QueueKept s (execPieceIssue p s) := by
  refine .ite ?_ (.idle s)
  split
  · split
    · exact .next (by simp)
    · exact .idle s
  all_goals exact .idle s

theorem queueKept_completionTimerExpiry (n : EntryNo) (s : State) : QueueKept s (execCompletionTimerExpiry n s) := by
  unfold execCompletionTimerExpiry
  split
  · exact .idle s
  · exact .ite (.next (by simp)) (.idle s)

theorem queueKept_exec (c : Instr) (s : State) : QueueKept s (exec c s) := by
  cases c with
  | powerOnReset | hostLinkUp => exact .next rfl
  | hostLinkReset => exact queueKept_hostLinkReset s
  | completionSend => exact queueKept_completionSend s
  | hostRequest | windowWrite | flagClear | maskWrite | noticeAcknowledge => exact .next (s.pending_hostArrival _)
  | badCommand | hostClaim | hostRetire | revoke | readClaim | find | portEnable | portDisable | portReset | portRetrain
  | portSleep | portWake | setQuota | setHold | setPool | setTiming => exact .next (s.pending_issueRow _ _ _)
  | presenceAppears p => exact .ite (.idle s) (.ite (.next rfl) (.next rfl))
  | presenceLost p => exact .ite (.next (by simp)) (.idle s)
  | greetEntry p => exact .ite (.next rfl) (.idle s)
  | hello p seq m => exact queueKept_receive fun u => u.pending_takeHello p seq m
  | greetTimerExpiry p => exact .ite (.next (by simp)) (.idle s)
  | badCheckMessage p => exact .next (by simp)
  | unknownMessage p => exact queueKept_receive fun u => u.pending_protocolError p
  | alignAck p seq y => exact queueKept_receive fun u => u.pending_takeAlignAck p seq y
  | attemptTimerExpiry p => exact .ite (.next (by simp)) (.idle s)
  | resetSignallingTimerExpiry p => exact .ite (.next (by simp)) (.idle s)
  | claim p | reshape p | release p => exact queueKept_receive fun u => u.pending_queueClaimMessage p _
  | takeClaim p => exact queueKept_takeClaim p s
  | takeReshape p => exact queueKept_takeReshape p s
  | takeRelease p => exact queueKept_takeRelease p s
  | owedMessageSend p => exact queueKept_owedMessageSend p s
  | pieceIssue p => exact queueKept_pieceIssue p s
  | complete p seq m => exact .ite (.next rfl) (queueKept_receive fun u => u.pending_takeComplete p m)
  | completionTimerExpiry n => exact queueKept_completionTimerExpiry n s
  | holdTimerExpiry p => exact .ite (.next (by simp)) (.idle s)
  | dozeIdleTimerExpiry p => exact .ite (.ite (.next rfl) (.next rfl)) (.idle s)
  | handshakeAnswerTimerExpiry p => exact .ite (.next (by simp)) (.idle s)
  | dozeAck p => exact queueKept_receive fun u => u.pending_takeDozeAck p
  | dozeNak p => exact queueKept_receive fun u => u.pending_takeDozeNak p
  | sleepReq p => exact queueKept_receive fun u => u.pending_takeSleepReq p
  | sleepAck p => exact queueKept_receive fun u => u.pending_takeSleepAck p
  | sleepNak p => exact queueKept_receive fun u => u.pending_takeSleepNak p
  | wake p => exact queueKept_receive fun u => u.pending_takeWake p
  | wakeAck p => exact queueKept_receive fun u => u.pending_takeWakeAck p
  | wakeExitTimerExpiry p => exact .ite (.next (by simp [State.wakeFailure])) (.idle s)
  | notice p _ code => exact queueKept_receive fun u => u.pending_takeNotice p code

/-- Settles O3: a split over the commands, each of which answers a next state by its definition. -/
theorem everyCommandAnswersNext : Obligations.EveryCommandAnswersNext :=
  queueKept_exec

end Sys2Proof.Machine
end

section
/-! PROOFS. The queue's front: the row's fixed form. -/

namespace Sys2Proof.Machine

open Sys2Proof

/-- Settles O1: on a queue with a front, `step` takes its second branch; `step_empty` says the first. -/
theorem stepRunsFrontCommand : Obligations.StepRunsFrontCommand := by
  intro s c rest hfront
  unfold step
  rw [hfront]

end Sys2Proof.Machine
end

section
/-! PROOFS. What a step can do to the parts of the state that the laws of the manual read: the claims, the entries, the records of the
ports and the settings. A step is a chain of moves, each of which says what it writes and what it found before; a law is then kept by
every step if every move keeps it. -/

namespace Sys2Proof.Machine

open Sys2Proof

/-! ### The parts that the laws read -/

/-- The two states agree in all that the laws of claims, entries, ports and settings read. -/
structure SameCore (s t : State) : Prop where
  winsel : t.winsel = s.winsel
  claims : t.claims = s.claims
  entries : t.entries = s.entries
  ports : t.ports = s.ports
  memPool : t.memPool = s.memPool
  ioPool : t.ioPool = s.ioPool
  completionTimeout : t.completionTimeout = s.completionTimeout
  dozeIdleTime : t.dozeIdleTime = s.dozeIdleTime
  realignLimit : t.realignLimit = s.realignLimit

theorem SameCore.refl (s : State) : SameCore s s :=
  ⟨rfl, rfl, rfl, rfl, rfl, rfl, rfl, rfl, rfl⟩

theorem SameCore.claim {s t : State} (h : SameCore s t) (n : SlotNo) : t.claim n = s.claim n := by
  simp only [State.claim, h.claims]

theorem SameCore.entry {s t : State} (h : SameCore s t) (k : EntryNo) : t.entry k = s.entry k := by
  simp only [State.entry, h.entries]

theorem SameCore.port {s t : State} (h : SameCore s t) (p : Port) : t.port p = s.port p := by
  simp only [State.port, h.ports]

theorem SameCore.setPort {s t : State} (h : SameCore s t) (p : Port) (x : PortRecord) :
    SameCore (s.setPort p x) (t.setPort p x) := by
  obtain ⟨h1, h2, h3, h4, h5, h6, h7, h8, h9⟩ := h
  exact ⟨h1, h2, h3, by simp only [State.setPort, h4], h5, h6, h7, h8, h9⟩

theorem SameCore.setClaim {s t : State} (h : SameCore s t) (n : SlotNo) (c : Option Claim) :
    SameCore (s.setClaim n c) (t.setClaim n c) := by
  obtain ⟨h1, h2, h3, h4, h5, h6, h7, h8, h9⟩ := h
  exact ⟨h1, by simp only [State.setClaim, h2], h3, h4, h5, h6, h7, h8, h9⟩

theorem SameCore.setEntry {s t : State} (h : SameCore s t) (k : EntryNo) (e : Option Entry) :
    SameCore (s.setEntry k e) (t.setEntry k e) := by
  obtain ⟨h1, h2, h3, h4, h5, h6, h7, h8, h9⟩ := h
  exact ⟨h1, h2, by simp only [State.setEntry, h3], h4, h5, h6, h7, h8, h9⟩

theorem SameCore.trans {s t u : State} (h : SameCore s t) (h' : SameCore t u) : SameCore s u :=
  ⟨h'.winsel.trans h.winsel, h'.claims.trans h.claims, h'.entries.trans h.entries, h'.ports.trans h.ports,
    h'.memPool.trans h.memPool, h'.ioPool.trans h.ioPool, h'.completionTimeout.trans h.completionTimeout,
    h'.dozeIdleTime.trans h.dozeIdleTime, h'.realignLimit.trans h.realignLimit⟩

theorem sameCore_driveAttn (s : State) : SameCore s s.driveAttn :=
  ⟨rfl, rfl, rfl, rfl, rfl, rfl, rfl, rfl, rfl⟩

theorem sameCore_raiseGlobal (s : State) (f : GlobalFlag) : SameCore s (s.raiseGlobal f) :=
  ⟨rfl, rfl, rfl, rfl, rfl, rfl, rfl, rfl, rfl⟩

theorem sameCore_clearGlobal (s : State) (ones : Word) : SameCore s (s.clearGlobal ones) :=
  ⟨rfl, rfl, rfl, rfl, rfl, rfl, rfl, rfl, rfl⟩

theorem sameCore_writeMask (s : State) (v : Word) : SameCore s (s.writeMask v) :=
  ⟨rfl, rfl, rfl, rfl, rfl, rfl, rfl, rfl, rfl⟩

theorem sameCore_handOver (s : State) (c : Completion) : SameCore s (s.handOver c) :=
  ⟨rfl, rfl, rfl, rfl, rfl, rfl, rfl, rfl, rfl⟩

theorem sameCore_latch (s : State) : SameCore s s.latch :=
  ⟨rfl, rfl, rfl, rfl, rfl, rfl, rfl, rfl, rfl⟩

theorem sameCore_finishCommand (s : State) (r : CommandResult) (w0 w1 w2 w3 : Nat) : SameCore s (s.finishCommand r w0 w1 w2 w3) :=
  ⟨rfl, rfl, rfl, rfl, rfl, rfl, rfl, rfl, rfl⟩

theorem sameCore_reportEnd (s : State) (c : HostCommand) (n : Nat) (r : CommandResult) (w : Nat) :
    SameCore s (s.reportEnd c n r w) := by
  unfold State.reportEnd
  split
  · exact sameCore_finishCommand ..
  · exact .refl s

theorem sameCore_raisePort (s : State) (p : Port) (f : PortFlag) :
    SameCore (s.setPort p { s.port p with flags := (s.port p).flags ||| f.mark }) (s.raisePort p f) :=
  sameCore_driveAttn _

/-! ### What the laws read of a port's record -/

/-- The law of a record's handshake (R117). -/
def PortRecord.HandshakeOk (x : PortRecord) : Prop :=
  x.handshake ≠ .none → x.state = .run

/-- The law of a record's lists (R38, R178). -/
def PortRecord.ListsOk (x : PortRecord) : Prop :=
  x.state.linked = false → x.owed = [] ∧ x.receiveList = [] ∧ x.notice = none ∧ x.noticeAckOwed = false

/-- The law of a record's doze idle timer under a doze idle time (R119). -/
def PortRecord.IdleOk (d : Nat) (x : PortRecord) : Prop :=
  x.dozeIdleTimer.isSome → x.state = .run ∧ x.dozeCapable = true ∧ d ≠ 0 ∧ x.handshake = .none

/-- The law of a record's receive list (R25). -/
def PortRecord.RoomOk (x : PortRecord) : Prop :=
  x.receiveList.length ≤ 16

/-- The port is in RUN with no handshake of the CD8 outstanding, so that its pieces may be OUTSTANDING (R71, R72). -/
def PortRecord.Issuing (x : PortRecord) : Prop :=
  x.state = .run ∧ x.handshake = .none

/-- A record of the port is written that stands in what claims, entries and the session read, and that keeps each law of the record. -/
structure RecordKept (d : Nat) (x y : PortRecord) : Prop where
  quota : y.quota = x.quota
  claimCount : y.claimCount = x.claimCount
  holdTime : y.holdTime = x.holdTime
  holdTimer : y.holdTimer = x.holdTimer
  issueList : y.issueList = x.issueList
  tagsInUse : y.tagsInUse = x.tagsInUse
  identity : y.identity = x.identity
  credit : y.credit = x.credit
  linked : y.state.linked = x.state.linked
  handshake : x.HandshakeOk → y.HandshakeOk
  lists : x.ListsOk → y.ListsOk
  idle : x.IdleOk d → y.IdleOk d
  room : x.RoomOk → y.RoomOk

/-- The record of a port whose session is over (R110, R112): what stays of it, and what is cleared. -/
structure RecordShut (x y : PortRecord) : Prop where
  quota : y.quota = x.quota
  claimCount : y.claimCount = x.claimCount
  holdTime : y.holdTime = x.holdTime
  issueList : y.issueList = x.issueList
  tagsInUse : y.tagsInUse = x.tagsInUse
  identity : y.identity = none
  credit : y.credit = 0
  unlinked : y.state.linked = false
  handshake : y.handshake = .none
  lists : y.owed = [] ∧ y.receiveList = [] ∧ y.notice = none ∧ y.noticeAckOwed = false
  idle : y.dozeIdleTimer = none

/-- The record of a port in GREET whose good HELLO opens a session (R99). -/
structure RecordOpened (d : Nat) (x y : PortRecord) : Prop where
  greet : x.state = .greet
  run : y.state = .run
  quota : y.quota = x.quota
  claimCount : y.claimCount = x.claimCount
  holdTime : y.holdTime = x.holdTime
  issueList : y.issueList = x.issueList
  tagsInUse : y.tagsInUse = x.tagsInUse
  identity : y.identity.isSome = true
  credit : 1 ≤ y.credit ∧ y.credit ≤ 8
  handshake : y.handshake = x.handshake
  idle : y.IdleOk d
  receiveList : y.receiveList = x.receiveList

/-! ### What a settling claim and a freed entry leave -/

/-- A claim that settles in slot `n`: the claim and its port's count, before the port is told of it (R9, R11). -/
def State.afterSettle (s : State) (n : SlotNo) (c : Claim) : State :=
  match c.owner with
  | .board p _ _ _ =>
    (s.setClaim n c.settled).setPort p
      { s.port p with claimCount := (s.port p).claimCount - c.freesBoard.toNat, flags := (s.port p).flags ||| 0x040 }
  | .fixed | .fence | .route _ _ => s.setClaim n c.settled

/-- The claim of slot `n` after one of its accesses is gone (R5): its count is one lower, and it settles with the last. -/
def State.lowered (s : State) (n : SlotNo) : State :=
  match s.claim n with
  | none => s
  | some c =>
    if c.phase.inMotion = true ∧ c.inFlight - 1 = 0 then s.afterSettle n { c with inFlight := c.inFlight - 1 }
    else s.setClaim n (some { c with inFlight := c.inFlight - 1 })

theorem SameCore.afterSettle {s t : State} (h : SameCore s t) (n : SlotNo) (c : Claim) :
    SameCore (s.afterSettle n c) (t.afterSettle n c) := by
  unfold State.afterSettle
  split
  · rw [h.port]
    exact (h.setClaim n _).setPort _ _
  all_goals exact h.setClaim n _

theorem SameCore.lowered {s t : State} (h : SameCore s t) (n : SlotNo) : SameCore (s.lowered n) (t.lowered n) := by
  unfold State.lowered
  rw [h.claim]
  split
  · exact h
  · split
    · exact h.afterSettle n _
    · exact h.setClaim n _

/-- The record of a port that an entry leaves: its issue list, its tags and its flags (R73, R79, R80). -/
def PortRecord.left (x : PortRecord) (n : EntryNo) (tags : Vector Bool 8) (flags : BitVec 12) : PortRecord :=
  { x with issueList := x.issueList.filter (· != n), tagsInUse := tags, flags := flags }

/-- The tags that an entry does not hold stay in use. -/
def TagsStay (x : PortRecord) (e : Entry) (tags : Vector Bool 8) : Prop :=
  ∀ t : PieceTag, x.tagsInUse[t] = true → .outstanding t ∉ e.pieces → tags[t] = true

/-- The entry `d` is `e` with its piece `k` ended (R75, R77, R78). -/
structure PieceEnded (e : Entry) (k : Nat) (st : Status) (d : Entry) : Prop where
  pieces : d.pieces = (e.endPiece k st).pieces
  status : d.status = (e.endPiece k st).status
  setBy : d.setBy = (e.endPiece k st).setBy
  owes : d.owes = e.owes
  slot : d.slot = e.slot
  port : d.port = e.port
  issued : d.issued = e.issued

/-! ### Moves -/

/-- What a chain of moves may pass through: nothing, a port on its way into REALIGN, a port whose session ends, or a claim on its
way into motion. -/
inductive Scope where
  | whole
  | realigning (p : Port)
  | closing (p : Port)
  | moving (n : SlotNo)

/-- One write of a step, with what the step found before it. -/
inductive Move : Scope → State → State → Prop
  /-- a write that no law reads -/
  | frame {o s t} (h : SameCore s t) : Move o s t
  /-- a port's record, kept legal -/
  | record {o s p y} (h : RecordKept s.dozeIdleTime (s.port p) y) (hissuing : (s.port p).Issuing → y.Issuing ∨ NoEntryOf s p) :
      Move o s (s.setPort p y)
  /-- a port enters REALIGN (R103) -/
  | halt {s p y} (h : RecordKept s.dozeIdleTime (s.port p) y) : Move (.realigning p) s (s.setPort p y)
  /-- a session ends (R110, R112) -/
  | shut {s p y} (h : RecordShut (s.port p) y) : Move (.closing p) s (s.setPort p y)
  /-- the claims of a port are ORPHANED (R137) -/
  | orphan {s p} : Move (.closing p) s (s.orphaned p)
  /-- the hold timer starts (R139) -/
  | holdStart {s p v} : Move (.closing p) s (s.setPort p { s.port p with holdTimer := some v })
  /-- the hold timer stops, with no orphan left (R141, R142, R145) -/
  | holdStop {o s p} (h : ∀ n c, s.claim n = some c → c.isOrphanOf p = false) :
      Move o s (s.setPort p { s.port p with holdTimer := none })
  /-- a session opens, and the port's orphans resume under its identity (R99, R142) -/
  | opening {s p y} (h : RecordOpened s.dozeIdleTime (s.port p) y)
      (horphans : ∀ n c, s.claim n = some c → c.isOrphanOf p = true → c.identity = y.identity) :
      Move .whole s ((s.revived p).setPort p y)
  /-- SET_QUOTA (R20) -/
  | setQuota {s p v} (hcount : (s.port p).claimCount ≤ v) (hrange : v ≤ 16) :
      Move .whole s (s.setPort p { s.port p with quota := v })
  /-- SET_HOLD (R136) -/
  | setHold {s p v} (hrange : v ≤ 60000) : Move .whole s (s.setPort p { s.port p with holdTime := v })
  /-- SET_POOL (R16) -/
  | setPool {s sp q} (hrange : poolGood sp q = true) : Move .whole s (s.setPool sp q)
  /-- SET_TIMING, but for the doze idle time (R81, R106) -/
  | setTiming {s u v} (hu : 100 ≤ u ∧ u ≤ 65000 ∨ u = s.completionTimeout) (hv : 1 ≤ v ∧ v ≤ 7 ∨ v = s.realignLimit) :
      Move .whole s { s with completionTimeout := u, realignLimit := v }
  /-- SET_TIMING of the doze idle time, which stops the timers where it is 0 (R118) -/
  | setIdle {s v} (hrange : v ≤ 65000) :
      Move .whole s (if v = 0 then State.stopIdleTimers { s with dozeIdleTime := v } else { s with dozeIdleTime := v })
  /-- a host claim is admitted (R7, R158) -/
  | admitHost {s n w sp b z} (hn : n ≠ 0) (hfree : s.claim n = none)
      (howner : w = .fence ∨ ∃ p a, w = .route p a ∧ a.width ∈ Space.widths sp) (hroom : s.overlaps sp b z none = false) :
      Move .whole s (s.setClaim n (some (newClaim w sp b z)))
  /-- a board claim is admitted and counted (R7, R30) -/
  | admitBoard {s n p h a sp b z} (hn : n ≠ 0) (hfree : s.claim n = none) (hrun : (s.port p).state = .run)
      (hhandle : HandleUnused s p h) (hquota : (s.port p).claimCount ≠ (s.port p).quota) (hwidth : a.width ∈ Space.widths sp)
      (hroom : s.overlaps sp b z none = false) :
      Move .whole s ((s.setClaim n (some (newClaim (.board p h ((s.port p).identity.getD 0) a) sp b z))).setPort p
        { s.port p with claimCount := (s.port p).claimCount + 1 })
  /-- a board claim is retired at once and counted out (R12) -/
  | retire {o s n c p} (hc : s.claim n = some c) (hboard : c.isBoardOf p = true) (hrest : (o = .whole ∧ c.phase = .orphaned) ∨ NoEntryOf s p) :
      Move o s ((s.setClaim n none).setPort p
        { s.port p with claimCount := (s.port p).claimCount - 1, flags := (s.port p).flags ||| 0x040 })
  /-- a reshape is accepted (R8) -/
  | reshape {s n c b z} (hown : c.owner ≠ .fixed) (hc : s.claim n = some c) (hroom : s.overlaps c.space b z (some n) = false)
      (hlinked : ∀ p, c.isBoardOf p = true → (s.port p).state.linked = true) :
      Move (.moving n) s (s.setClaim n (some { c with phase := .reshaping b z }))
  /-- a drain starts (R10) -/
  | drain {s n c cause} (hown : c.owner ≠ .fixed) (hc : s.claim n = some c)
      (hlinked : ∀ p, c.isBoardOf p = true → c.phase = .orphaned → (s.port p).state.linked = true) :
      Move (.moving n) s (s.setClaim n (some { c with phase := .draining cause }))
  /-- a claim with nothing in flight settles (R9, R11) -/
  | settle {o s n c} (hc : s.claim n = some c) (hmotion : c.phase.inMotion = true) (hrest : c.inFlight = 0) :
      Move o s (s.afterSettle n c)
  /-- an entry leaves its place (R5, R73, R79) -/
  | release {o s k e tags flags} (he : s.entry k = some e) (htags : TagsStay (s.port e.port) e tags) :
      Move o s (((s.setPort e.port ((s.port e.port).left k tags flags)).setEntry k none).lowered e.slot)
  /-- an entry enters a free place for a LIVE claim (R54, R56) -/
  | create {s k e n c p a} (hk : s.entry k = none) (hc : s.claim n = some c) (hlive : c.phase = .live)
      (howner : c.owner = .route p a ∨ ∃ h y, c.owner = .board p h y a) (r : Request) (kind : AccessKind) (sp : Space)
      (he : e = newEntry r kind sp n p a) :
      Move .whole s (((s.setEntry k (some e)).setClaim n (some { c with inFlight := c.inFlight + 1 })).setPort p
        { s.port p with issueList := (s.port p).issueList ++ [k] })
  /-- the next piece of an entry is issued (R70, R71) -/
  | issue {s k e p t} (hlist : k ∈ (s.port p).issueList) (he : s.entry k = some e) (hissuing : (s.port p).Issuing)
      (hcredit : t.val < (s.port p).credit) (hfree : (s.port p).tagsInUse[t] = false) :
      Move .whole s ((s.setEntry k (some (e.issueNext t s.completionTimeout))).setPort p
        { s.port p with
          tagsInUse := (s.port p).tagsInUse.set t.val true
          issueList := if e.issued + 1 < e.pieces.length then (s.port p).issueList else (s.port p).issueList.filter (· != k) })
  /-- a piece ends under its tag, and others are left (R74, R75) -/
  | complete {s k e i t st d flags} (he : s.entry k = some e) (hpiece : e.pieces[i]? = some (.outstanding t)) (hd : PieceEnded e i st d) :
      Move .whole s ((s.setPort e.port
        { s.port e.port with tagsInUse := (s.port e.port).tagsInUse.set t.val false, flags := flags }).setEntry k (some d))
  /-- an entry owes no answer any more (R64) -/
  | disown {s k e} (he : s.entry k = some e) : Move .whole s (s.setEntry k (some { e with owes := none }))
  /-- the tags of a port are freed, with no piece of its entries issued (R72, R85, R86) -/
  | freeTags {o s p} (h : ∀ k e, s.entry k = some e → e.port = p → e.issued = 0) :
      Move o s (s.setPort p { s.port p with tagsInUse := Vector.replicate 8 false })
  /-- the issue list of a port is cleared (R86) -/
  | clearList {o s p} : Move o s (s.setPort p { s.port p with issueList := [] })

/-- A chain of moves. -/
def Moves (o : Scope) : State → State → Prop :=
  Relation.ReflTransGen (Move o)

theorem Move.moves {o : Scope} {s t : State} (h : Move o s t) : Moves o s t :=
  Relation.ReflTransGen.single h

theorem Moves.refl {o : Scope} {s : State} : Moves o s s :=
  Relation.ReflTransGen.refl

theorem Moves.trans {o : Scope} {s t u : State} (h : Moves o s t) (h' : Moves o t u) : Moves o s u :=
  Relation.ReflTransGen.trans h h'

/-- A property that every move of a chain keeps. -/
theorem Moves.keeps {o : Scope} {P : State → Prop} (hP : ∀ s t, Move o s t → P s → P t) {s t : State} (h : Moves o s t) (hs : P s) :
    P t := by
  induction h with
  | refl => exact hs
  | tail _ hmove ih => exact hP _ _ hmove ih

end Sys2Proof.Machine
end

section
/-! PROOFS. The moves that the shared operations are made of: messages and timers, owing, retirement, the settling of claims and the end
of entries. -/

namespace Sys2Proof.Machine

open Sys2Proof

variable {o : Scope}

/-! ### Writes that no law reads -/

theorem SameCore.moves {s t : State} (h : SameCore s t) : Moves o s t :=
  (Move.frame h).moves

/-- A chain that ends in a state which agrees with the one wanted. -/
theorem Moves.core {s t u : State} (h : Moves o s t) (hu : SameCore t u) : Moves o s u :=
  h.tail (.frame hu)

theorem moves_handOver (s : State) (c : Completion) : Moves o s (s.handOver c) :=
  (sameCore_handOver s c).moves

theorem moves_finishCommand (s : State) (r : CommandResult) (w0 w1 w2 w3 : Nat) : Moves o s (s.finishCommand r w0 w1 w2 w3) :=
  (sameCore_finishCommand ..).moves

theorem moves_refuseCommand (s : State) (r : Reason) : Moves o s (s.refuseCommand r) :=
  moves_finishCommand ..

theorem moves_reportEnd (s : State) (c : HostCommand) (n : Nat) (r : CommandResult) (w : Nat) : Moves o s (s.reportEnd c n r w) :=
  (sameCore_reportEnd ..).moves

theorem moves_endLinkCommands (s : State) (p : Port) : Moves o s (s.endLinkCommands p) :=
  ((moves_reportEnd ..).trans (moves_reportEnd ..)).trans (moves_reportEnd ..)

theorem moves_endPowerCommand (s : State) (p : Port) (x : PortRecord) : Moves o s (s.endPowerCommand p x) := by
  unfold State.endPowerCommand
  split_ifs
  · exact moves_reportEnd ..
  · exact moves_reportEnd ..
  · exact .refl

/-! ### Records that stand in what the laws read -/

theorem RecordKept.refl (d : Nat) (x : PortRecord) : RecordKept d x x :=
  ⟨rfl, rfl, rfl, rfl, rfl, rfl, rfl, rfl, rfl, id, id, id, id⟩

/-- A record that keeps its laws, in the same state and under the same handshake. -/
theorem moves_record {s : State} {p : Port} {y : PortRecord} (h : RecordKept s.dozeIdleTime (s.port p) y)
    (hstate : y.state = (s.port p).state) (hshake : y.handshake = (s.port p).handshake) : Moves o s (s.setPort p y) :=
  (Move.record h fun ⟨hrun, hnone⟩ => .inl ⟨hstate.trans hrun, hshake.trans hnone⟩).moves

/-- A record that keeps its laws, of a port with no piece OUTSTANDING. -/
theorem moves_record_of_not_issuing {s : State} {p : Port} {y : PortRecord} (h : RecordKept s.dozeIdleTime (s.port p) y)
    (hidle : ¬ (s.port p).Issuing) : Moves o s (s.setPort p y) :=
  (Move.record h fun hissuing => absurd hissuing hidle).moves

theorem not_issuing_of_state {x : PortRecord} (h : x.state ≠ .run) : ¬ x.Issuing :=
  fun hissuing => h hissuing.1

theorem not_issuing_of_handshake {x : PortRecord} (h : x.handshake ≠ .none) : ¬ x.Issuing :=
  fun hissuing => h hissuing.2

theorem recordKept_flags (d : Nat) (x : PortRecord) (f : BitVec 12) : RecordKept d x { x with flags := f } :=
  ⟨rfl, rfl, rfl, rfl, rfl, rfl, rfl, rfl, rfl, id, id, id, id⟩

theorem idleOk_idleOf (s : State) (x : PortRecord) : PortRecord.IdleOk s.dozeIdleTime { x with dozeIdleTimer := s.idleOf x } := by
  unfold PortRecord.IdleOk State.idleOf
  split
  next h => exact fun _ => h
  next => simp

theorem recordKept_timed (s : State) (x : PortRecord) : RecordKept s.dozeIdleTime x (s.timed x) :=
  ⟨rfl, rfl, rfl, rfl, rfl, rfl, rfl, rfl, rfl, id, id, fun _ => idleOk_idleOf s x, id⟩

theorem recordKept_sentRecord (s : State) (x : PortRecord) (m : OutMessage) : RecordKept s.dozeIdleTime x (s.sentRecord x m) :=
  ⟨rfl, rfl, rfl, rfl, rfl, rfl, rfl, rfl, rfl, id, id, fun _ => idleOk_idleOf s x, id⟩

theorem recordKept_heardRecord (s : State) (p : Port) : RecordKept s.dozeIdleTime (s.port p) (s.heardRecord p) :=
  ⟨rfl, rfl, rfl, rfl, rfl, rfl, rfl, rfl, rfl, id, id, fun _ => idleOk_idleOf s (s.port p), id⟩

theorem moves_raisePort (s : State) (p : Port) (f : PortFlag) : Moves o s (s.raisePort p f) :=
  (moves_record (recordKept_flags _ _ ((s.port p).flags ||| f.mark)) rfl rfl).core (sameCore_raisePort s p f)

theorem moves_protocolError (s : State) (p : Port) : Moves o s (s.protocolError p) :=
  moves_raisePort ..

theorem moves_restartIdle (s : State) (p : Port) : Moves o s (s.restartIdle p) := by
  rw [State.restartIdle_eq]
  exact moves_record (recordKept_timed ..) rfl rfl

theorem moves_transmit (s : State) (p : Port) (m : OutMessage) : Moves o s (s.transmit p m) := by
  rw [State.transmit_eq]
  exact moves_record (recordKept_sentRecord ..) rfl rfl

theorem moves_heard (s : State) (p : Port) : Moves o s (s.heard p) :=
  moves_record (recordKept_heardRecord ..) rfl rfl

theorem moves_sendAlign (s : State) (p : Port) : Moves o s (s.sendAlign p) := by
  rw [State.sendAlign_eq]
  exact moves_record ⟨rfl, rfl, rfl, rfl, rfl, rfl, rfl, rfl, rfl, id, id, id, id⟩ rfl rfl

/-! ### Waking and owing (R36, R111, R128) -/

/-- The record that a port in DOZE or SLEEP takes as it wakes keeps its laws. -/
theorem recordKept_afterWakeCause (d : Nat) (x : PortRecord) : RecordKept d x x.afterWakeCause := by
  have woken {y : PortRecord} (hx : x.state = .doze ∨ x.state = .sleep) (limit : Nat)
      (hy : y = { x with
        state := .waking, wakeExitTimer := some limit, dozeIdleTimer := none
        sent := x.sent ++ [⟨x.sendSeq, .wake⟩], sendSeq := x.sendSeq + 1 }) : RecordKept d x y := by
    subst hy
    have hlinked : x.state.linked = true := by rcases hx with h | h <;> simp [h, PortState.linked]
    refine ⟨rfl, rfl, rfl, rfl, rfl, rfl, rfl, rfl, hlinked.symm, fun h hshake => ?_, fun _ h => ?_, fun _ h => ?_, id⟩
    · have hrun : x.state = .run := h hshake
      rcases hx with hx | hx <;> simp [hx] at hrun
    · simp [PortState.linked] at h
    · simp at h
  unfold PortRecord.afterWakeCause
  cases hx : x.state
  case doze => exact woken (.inl hx) 100 rfl
  case sleep => exact woken (.inr hx) 10000 rfl
  all_goals exact .refl d x

theorem moves_wakeCause (s : State) (p : Port) : Moves o s (s.wakeCause p) := by
  rw [State.wakeCause_eq]
  by_cases hissuing : (s.port p).Issuing
  · rw [show (s.port p).afterWakeCause = s.port p by simp only [PortRecord.afterWakeCause, hissuing.1]]
    exact moves_record (.refl ..) rfl rfl
  · exact moves_record_of_not_issuing (recordKept_afterWakeCause ..) hissuing

theorem recordKept_owed {d : Nat} {x : PortRecord} (hlinked : x.state.linked = true) (l : List OwedMessage) (b : Bool) :
    RecordKept d x { x with owed := l, noticeAckOwed := b } :=
  ⟨rfl, rfl, rfl, rfl, rfl, rfl, rfl, rfl, rfl, id, fun _ h => absurd (hlinked.symm.trans h) (by simp), id, id⟩

theorem moves_owe (s : State) (p : Port) (m : OwedMessage) : Moves o s (s.owe p m) := by
  unfold State.owe
  split
  next hlinked => 
    exact (moves_record (recordKept_owed hlinked ((s.port p).owed ++ [m]) (s.port p).noticeAckOwed) rfl rfl).trans
      (moves_wakeCause ..)
  next => exact .refl

theorem moves_refuse (s : State) (p : Port) (h : Handle) (r : Reason) : Moves o s (s.refuse p h r) :=
  moves_owe ..

/-! ### The settling of a claim (R9, R11) -/

theorem State.owe_eq (s : State) (p : Port) (m : OwedMessage) : s.owe p m = s.setPort p ((s.port p).taking [m]) := by
  by_cases h : (s.port p).state.linked = true
  · rw [State.owe_linked h, PortRecord.taking, if_pos ⟨h, by simp⟩]
    rfl
  · rw [State.owe_unlinked (by simpa using h), PortRecord.taking, if_neg (by simp [h]), State.setPort_port]

/-- The port of a board claim is told that the claim settles (R36). -/
def State.told (s : State) (n : SlotNo) (c : Claim) : State :=
  match c.owner, c.settlingMessage n with
  | .board p _ _ _, some m => s.owe p m
  | .board _ _ _ _, none => s
  | .fixed, _ | .fence, _ | .route _ _, _ => s

theorem moves_told (s : State) (n : SlotNo) (c : Claim) : Moves o s (s.told n c) := by
  unfold State.told
  split
  · exact moves_owe ..
  all_goals exact .refl

theorem sameCore_countOut (s : State) (p : Port) :
    SameCore (s.setPort p { s.port p with claimCount := (s.port p).claimCount - 1, flags := (s.port p).flags ||| 0x040 })
      (s.countOut p) := by
  have h := sameCore_raisePort (s.modifyPort p fun x => { x with claimCount := x.claimCount - 1 }) p .claimChange
  rwa [State.port_modifyPort_self, State.modifyPort_eq_setPort, State.setPort_setPort] at h

/-- The claim count and the flags do not change what a message owed does to a record. -/
theorem PortRecord.taking_counted (x : PortRecord) (l : List OwedMessage) (count : Nat) (marks : BitVec 12) :
    ({ x with claimCount := x.claimCount - count, flags := x.flags ||| marks } : PortRecord).taking l =
      { x.taking l with claimCount := (x.taking l).claimCount - count, flags := (x.taking l).flags ||| marks } := by
  rw [← PortRecord.freeing_marks, ← PortRecord.freeing_marks, PortRecord.taking_freeing]

theorem State.owe_countOut_core (s : State) (p : Port) (m : OwedMessage) {t : State} (ht : SameCore (s.owe p m) t) :
    SameCore ((s.setPort p { s.port p with claimCount := (s.port p).claimCount - 1, flags := (s.port p).flags ||| 0x040 }).owe p m)
      (t.countOut p) := by
  refine SameCore.trans ?_ (sameCore_countOut t p)
  rw [ht.port]
  refine SameCore.trans ?_ (ht.setPort p _)
  rw [State.owe_eq, State.owe_eq, State.port_setPort_self, State.setPort_setPort, State.setPort_setPort, State.port_setPort_self,
    PortRecord.taking_counted]
  exact .refl _

theorem completeDrain_core (s : State) (n : SlotNo) {c : Claim} {cause : RetireCause} (hphase : c.phase = .draining cause) :
    SameCore ((s.afterSettle n c).told n c) (s.completeDrain n c cause) := by
  obtain ⟨owner, space, base, size, phase, inFlight⟩ := c
  obtain rfl : phase = .draining cause := hphase
  cases owner with
  | board p h y a =>
    cases cause with
    | release => exact State.owe_countOut_core (s.setClaim n none) p _ (.refl _)
    | revoke => exact State.owe_countOut_core (s.setClaim n none) p _ (sameCore_reportEnd ..)
    | hostRetire =>
      refine SameCore.trans ?_ (sameCore_countOut _ p)
      have hreport := sameCore_reportEnd (s.setClaim n none) .hostRetire n.val .done n.val
      rw [hreport.port]
      exact hreport.setPort p _
  | fixed | fence | route =>
    cases cause with
    | release => exact .refl _
    | revoke | hostRetire => exact sameCore_reportEnd ..

theorem commitReshape_core (s : State) (n : SlotNo) {c : Claim} {b z : Nat} (hphase : c.phase = .reshaping b z) (hrest : c.inFlight = 0) :
    SameCore ((s.afterSettle n c).told n c) (s.commitReshape n c b z) := by
  obtain ⟨owner, space, base, size, phase, inFlight⟩ := c
  obtain rfl : phase = .reshaping b z := hphase
  obtain rfl : inFlight = 0 := hrest
  cases owner with
  | board p h y a =>
    refine SameCore.trans ?_ (sameCore_raisePort _ p .claimChange)
    simp only [State.told, State.afterSettle, Claim.settlingMessage, State.owe_eq, State.port_setPort_self, State.setPort_setPort,
      PortRecord.taking_counted]
    simp [Claim.settled, Claim.freesBoard, PortFlag.mark, SameCore.refl]
  | fixed | fence | route => exact .refl _

/-- A claim in motion with nothing in flight settles, and its port is told. -/
theorem settle_core {s : State} {n : SlotNo} {c : Claim} (hc : s.claim n = some c) (hmotion : c.phase.inMotion = true)
    (hrest : c.inFlight = 0) : SameCore ((s.afterSettle n c).told n c) (s.settle n) := by
  simp only [State.settle, hc, hrest, if_true]
  cases hphase : c.phase with
  | reshaping b z => exact commitReshape_core s n hphase hrest
  | draining cause => exact completeDrain_core s n hphase
  | live | orphaned => simp [hphase, Phase.inMotion] at hmotion

/-- Any other claim stands. -/
theorem settle_idle {s : State} {n : SlotNo} (h : ∀ c, s.claim n = some c → c.phase.inMotion = true → c.inFlight ≠ 0) :
    s.settle n = s := by
  unfold State.settle
  split
  next => rfl
  next c hc =>
    split
    next hrest =>
      split
      next hphase => exact absurd hrest (h c hc (by simp [hphase, Phase.inMotion]))
      next hphase => exact absurd hrest (h c hc (by simp [hphase, Phase.inMotion]))
      all_goals rfl
    next => rfl

theorem moves_settle (s : State) (n : SlotNo) : Moves o s (s.settle n) := by
  by_cases h : ∀ c, s.claim n = some c → c.phase.inMotion = true → c.inFlight ≠ 0
  · rw [settle_idle h]
    exact .refl
  · push Not at h
    obtain ⟨c, hc, hmotion, hrest⟩ := h
    exact ((Move.settle hc hmotion hrest).moves.trans (moves_told ..)).core (settle_core hc hmotion hrest)

theorem State.afterSettle_setClaim (s : State) (n : SlotNo) (c c' : Claim) :
    (s.setClaim n (some c')).afterSettle n c = s.afterSettle n c := by
  unfold State.afterSettle
  split <;> simp

/-- The decrement that a freed entry reports is the lowered claim, with its port told where the claim settles (R5). -/
theorem moves_decrement (s : State) (n : SlotNo) : Moves o (s.lowered n) (s.decrement n) := by
  cases hc : s.claim n with
  | none =>
    simp only [State.lowered, State.decrement, hc]
    exact .refl
  | some c =>
    simp only [State.lowered, State.decrement, hc]
    split
    next h =>
      obtain ⟨hmotion, hrest⟩ := h
      have hcore := settle_core (State.claim_setClaim_self s n (some { c with inFlight := c.inFlight - 1 })) hmotion hrest
      rw [State.afterSettle_setClaim] at hcore
      exact (moves_told ..).core hcore
    next => exact moves_settle ..

/-! ### The end of entries (R64, R73, R79) -/

/-- An entry that is freed, once its port's record has given up tags and its flags were raised. -/
theorem moves_freeEntry {s t : State} {k : EntryNo} {e d : Entry} (he : s.entry k = some e) (hport : d.port = e.port)
    (hslot : d.slot = e.slot) {tags : Vector Bool 8} (htags : TagsStay (s.port e.port) e tags) {flags : BitVec 12}
    (ht : SameCore (s.setPort e.port { s.port e.port with tagsInUse := tags, flags := flags }) t) : Moves o s (t.freeEntry k d) := by
  refine Moves.trans ?_ (moves_decrement ..)
  rw [hslot, hport]
  refine Moves.core (Move.release (flags := flags) he htags).moves (SameCore.lowered ?_ _)
  rw [State.modifyPort_eq_setPort, ht.port, State.port_setPort_self]
  have h := ht.setPort e.port ((s.port e.port).left k tags flags)
  rw [State.setPort_setPort] at h
  exact h.setEntry k none

theorem TagsStay.refl (x : PortRecord) (e : Entry) : TagsStay x e x.tagsInUse :=
  fun _ h _ => h

theorem tagsStay_releaseTags (x : PortRecord) (e : Entry) : TagsStay x e (releaseTags x.tagsInUse e.pieces) := by
  intro t ht hnot
  rw [getElem_releaseTags, ht]
  simpa using hnot

/-- An entry that finishes, once its port's record has given up tags and its flags were raised. -/
theorem moves_finishEntry {s t : State} {k : EntryNo} {e d : Entry} (he : s.entry k = some e) (hport : d.port = e.port)
    (hslot : d.slot = e.slot) {tags : Vector Bool 8} (htags : TagsStay (s.port e.port) e tags) {flags : BitVec 12}
    (ht : SameCore (s.setPort e.port { s.port e.port with tagsInUse := tags, flags := flags }) t) :
    Moves o s (t.finishEntry k d) := by
  unfold State.finishEntry
  split
  next => exact moves_freeEntry he hport hslot htags (ht.trans (sameCore_handOver ..))
  next =>
    split
    next =>
      refine moves_freeEntry he hport hslot htags (flags := flags ||| PortFlag.postedLost.mark) ?_
      refine SameCore.trans ?_ (sameCore_raisePort t d.port .postedLost)
      rw [hport, ht.port, State.port_setPort_self]
      have h := ht.setPort e.port { s.port e.port with tagsInUse := tags, flags := flags ||| PortFlag.postedLost.mark }
      rwa [State.setPort_setPort] at h
    next => exact moves_freeEntry he hport hslot htags ht

theorem moves_endEntry {s : State} {k : EntryNo} {e : Entry} (he : s.entry k = some e) (st : Status) :
    Moves o s (s.endEntry k e st) :=
  moves_finishEntry he (by simp) (by simp) (tagsStay_releaseTags (s.port e.port) e) (flags := (s.port e.port).flags) (.refl _)

/-- A walk each step of which is a chain of moves. -/
theorem moves_foldl {α : Type} {f : State → α → State} (I : State → Prop) (hf : ∀ s x, I s → Moves o s (f s x) ∧ I (f s x))
    (l : List α) {s : State} (hs : I s) : Moves o s (l.foldl f s) ∧ I (l.foldl f s) := by
  induction l generalizing s with
  | nil => exact ⟨.refl, hs⟩
  | cons x l ih =>
    obtain ⟨hmove, hI⟩ := hf s x hs
    obtain ⟨hmoves, hend⟩ := ih hI
    exact ⟨hmove.trans hmoves, hend⟩

theorem moves_endEntries (s : State) (reaches : Entry → Bool) (st : Status) : Moves o s (s.endEntries reaches st) := by
  refine (moves_foldl (fun _ => True) (fun u k _ => ⟨?_, trivial⟩) allEntries trivial).1
  split
  next e he =>
    split
    · exact moves_endEntry he st
    · exact .refl
  next => exact .refl

theorem moves_purge (s : State) (n : SlotNo) (st : Status) : Moves o s (s.purge n st) :=
  moves_endEntries ..

/-! ### What the end of entries leaves in the places (R73) -/

@[simp] theorem State.entry_raisePort (s : State) (p : Port) (f : PortFlag) (k : EntryNo) : (s.raisePort p f).entry k = s.entry k := rfl
@[simp] theorem State.entry_countOut (s : State) (p : Port) (k : EntryNo) : (s.countOut p).entry k = s.entry k := rfl

@[simp] theorem State.entry_reportEnd (s : State) (c : HostCommand) (n : Nat) (r : CommandResult) (w : Nat) (k : EntryNo) :
    (s.reportEnd c n r w).entry k = s.entry k :=
  (sameCore_reportEnd ..).entry k

@[simp] theorem State.entry_owe (s : State) (p : Port) (m : OwedMessage) (k : EntryNo) : (s.owe p m).entry k = s.entry k := by
  rw [State.owe_eq, State.entry_setPort]

@[simp] theorem State.entry_settle (s : State) (n : SlotNo) (k : EntryNo) : (s.settle n).entry k = s.entry k := by
  unfold State.settle State.commitReshape State.completeDrain
  split
  · rfl
  · split
    · split
      · split <;> simp
      · split
        · split <;> simp
        all_goals split <;> simp
      all_goals rfl
    · rfl

@[simp] theorem State.entry_decrement (s : State) (n : SlotNo) (k : EntryNo) : (s.decrement n).entry k = s.entry k := by
  unfold State.decrement
  split <;> simp

theorem State.entry_freeEntry (s : State) (n k : EntryNo) (e : Entry) :
    (s.freeEntry n e).entry k = if n = k then none else s.entry k := by
  simp [State.freeEntry, State.entry_setEntry]

theorem State.entry_endEntry (s : State) (n k : EntryNo) (e : Entry) (st : Status) :
    (s.endEntry n e st).entry k = if n = k then none else s.entry k := by
  simp only [State.endEntry, State.finishEntry]
  rw [State.entry_freeEntry]
  split
  · rfl
  · split
    · rfl
    · split <;> simp

/-- The event leaves the entries that it does not reach. -/
theorem State.entry_endEntries (s : State) (reaches : Entry → Bool) (st : Status) (k : EntryNo) :
    (s.endEntries reaches st).entry k = (s.entry k).filter fun e => !reaches e := by
  have walk (l : List EntryNo) (hl : l.Nodup) (u : State) :
      (l.foldl (State.endIfReached reaches st) u).entry k =
        if k ∈ l then (u.entry k).filter fun e => !reaches e else u.entry k := by
    induction l generalizing u with
    | nil => simp
    | cons n l ih =>
      obtain ⟨hn, hnodup⟩ := List.nodup_cons.mp hl
      have hstep : (State.endIfReached reaches st u n).entry k =
          if n = k then (u.entry k).filter fun e => !reaches e else u.entry k := by
        unfold State.endIfReached
        by_cases hnk : n = k
        · subst hnk
          cases he : u.entry n with
          | none => simp [he]
          | some e => by_cases hr : reaches e = true <;> simp [hr, he, Option.filter_some, State.entry_endEntry]
        · cases he : (u.entry n).filter reaches with
          | none => simp [hnk]
          | some e => simp [State.entry_endEntry, hnk]
      rw [List.foldl_cons, ih hnodup, hstep]
      by_cases hnk : n = k
      · subst hnk
        simp [hn]
      · simp [hnk, Ne.symm hnk]
  rw [State.endEntries_eq_foldl, walk _ nodup_allEntries, if_pos (mem_allEntries k)]

/-! ### The entries of a port (R85, R86) -/

theorem noEntryOf_endEntries (s : State) (p : Port) (st : Status) : NoEntryOf (s.endEntries (fun e => e.port == p) st) p := by
  intro k e he
  rw [State.entry_endEntries, Option.filter_eq_some_iff] at he
  simpa using he.2

theorem issued_of_retrained {s : State} {p : Port} {st : Status} {k : EntryNo} {e : Entry}
    (he : (s.endEntries (fun e => e.port == p && e.issued != 0) st).entry k = some e) (hport : e.port = p) : e.issued = 0 := by
  rw [State.entry_endEntries, Option.filter_eq_some_iff] at he
  simpa [hport] using he.2

theorem moves_retrainEntries (s : State) (p : Port) : Moves o s (s.retrainEntries p) :=
  (moves_endEntries ..).trans (Move.freeTags fun _ _ he hport => issued_of_retrained he hport).moves

theorem moves_dropEntries (s : State) (p : Port) : Moves o s (s.dropEntries p) := by
  have hnone := noEntryOf_endEntries s p .linkDown
  refine ((moves_endEntries ..).trans (Move.freeTags fun k e he hport => absurd hport (hnone k e he)).moves).trans ?_
  exact Move.clearList.moves

theorem noEntryOf_dropEntries (s : State) (p : Port) : NoEntryOf (s.dropEntries p) p := by
  intro k e he
  simp only [State.dropEntries, State.freeTags, State.entry_modifyPort] at he
  exact noEntryOf_endEntries s p .linkDown k e he

/-! ### Retirement at once (R12) -/

theorem moves_retireNow {s : State} {n : SlotNo} {c : Claim} {p : Port} (hc : s.claim n = some c) (hboard : c.isBoardOf p = true)
    (hrest : (o = .whole ∧ c.phase = .orphaned) ∨ NoEntryOf s p) : Moves o s (s.retireNow n p) :=
  (Move.retire hc hboard hrest).moves.core (sameCore_countOut (s.setClaim n none) p)

theorem moves_retireWhere {s : State} {p : Port} {picks : Claim → Bool} (hpicks : ∀ c, picks c = true → c.isBoardOf p = true)
    (hrest : NoEntryOf s p ∨ (o = .whole ∧ ∀ c, picks c = true → c.phase = .orphaned)) : Moves o s (s.retireWhere p picks) := by
  refine (moves_foldl (fun u => NoEntryOf u p ∨ (o = .whole ∧ ∀ c, picks c = true → c.phase = .orphaned)) (fun u n hu => ?_)
    allSlots hrest).1
  split
  next c hc =>
    split
    next hpick => exact ⟨moves_retireNow hc (hpicks c hpick) (hu.symm.imp (fun h => ⟨h.1, h.2 c hpick⟩) id), hu⟩
    next => exact ⟨.refl, hu⟩
  next => exact ⟨.refl, hu⟩

theorem Claim.isOrphanOf_iff (c : Claim) (p : Port) : c.isOrphanOf p = true ↔ c.isBoardOf p = true ∧ c.phase = .orphaned := by
  simp [Claim.isOrphanOf]

theorem moves_retireOrphans (s : State) (p : Port) : Moves .whole s (s.retireWhere p fun c => c.isOrphanOf p) :=
  moves_retireWhere (fun c hc => ((c.isOrphanOf_iff p).mp hc).1) (.inr ⟨rfl, fun c hc => ((c.isOrphanOf_iff p).mp hc).2⟩)

end Sys2Proof.Machine
end

section
/-! PROOFS. Every step is a chain of stages: a move, or one of the operations that break a law on their way and mend it before they end.
-/

namespace Sys2Proof.Machine

open Sys2Proof

variable {o : Scope}

/-! ### Stages -/

/-- The parts that the laws read right after power-on reset (R22, R90, R92). -/
structure Fresh (t : State) : Prop where
  claims : t.claims = (State.powerOn t.winsel).claims
  entries : t.entries = Vector.replicate 32 none
  ports : ∀ p, ∃ b, t.port p = { PortRecord.reset with present := b }
  memPool : t.memPool = ⟨0x80000000, 0xBFFFFFFF⟩
  ioPool : t.ioPool = ⟨0x1000, 0xFFFF⟩
  completionTimeout : t.completionTimeout = 2000
  dozeIdleTime : t.dozeIdleTime = 200
  realignLimit : t.realignLimit = 3

/-- One stage of a step. -/
inductive Stage : State → State → Prop
  | move {s t} (h : Move .whole s t) : Stage s t
  /-- REALIGN entry (R103) -/
  | realign {s p} (hlinked : (s.port p).state.linked = true) : Stage s (s.enterRealign p)
  /-- link loss (R110) -/
  | lose {s p} : Stage s (s.linkLoss p)
  /-- the end of a session by a port command (R112, R113) -/
  | close {s p st signalling} (hst : st.linked = false) : Stage s (s.closePort p st signalling)
  /-- the start of a drain (R10) -/
  | drain {s n c cause} (hown : c.owner ≠ .fixed) (hc : s.claim n = some c)
      (hlinked : ∀ p, c.isBoardOf p = true → c.phase = .orphaned → (s.port p).state.linked = true) : Stage s (s.startDrain n c cause)
  /-- the acceptance of a reshape (R8) -/
  | reshape {s n c b z} (hown : c.owner ≠ .fixed) (hc : s.claim n = some c) (hroom : s.overlaps c.space b z (some n) = false)
      (hlinked : ∀ p, c.isBoardOf p = true → (s.port p).state.linked = true) : Stage s (s.acceptReshape n c b z)
  /-- power-on reset (R22) -/
  | fresh {s t} (h : Fresh t) : Stage s t

/-- A chain of stages. -/
def Stages : State → State → Prop :=
  Relation.ReflTransGen Stage

theorem Stage.stages {s t : State} (h : Stage s t) : Stages s t :=
  Relation.ReflTransGen.single h

theorem Stages.refl {s : State} : Stages s s :=
  Relation.ReflTransGen.refl

theorem Stages.trans {s t u : State} (h : Stages s t) (h' : Stages t u) : Stages s u :=
  Relation.ReflTransGen.trans h h'

theorem Moves.stages {s t : State} (h : Moves .whole s t) : Stages s t :=
  h.keeps (P := Stages s) (fun _ _ hmove hs => hs.tail (.move hmove)) .refl

/-- A law that every stage keeps. -/
theorem Stages.keeps {P : State → Prop} (hP : ∀ s t, Stage s t → P s → P t) {s t : State} (h : Stages s t) (hs : P s) : P t := by
  induction h with
  | refl => exact hs
  | tail _ hstage ih => exact hP _ _ hstage ih

/-! ### The moves of the stages that are no single move -/

theorem recordKept_realigning {d : Nat} {x : PortRecord} (hlinked : x.state.linked = true) : RecordKept d x x.realigning :=
  ⟨rfl, rfl, rfl, rfl, rfl, rfl, rfl, rfl, hlinked.symm, fun _ h => absurd rfl h, fun _ h => absurd h (by simp [PortRecord.realigning,
    PortState.linked]), fun _ h => absurd h (by simp [PortRecord.realigning]), id⟩

theorem moves_attempts (s : State) (p : Port) (limit : Nat) :
    Moves o s (s.setPort p { s.port p with realignAttempts := 0, realignLimit := limit }) :=
  moves_record ⟨rfl, rfl, rfl, rfl, rfl, rfl, rfl, rfl, rfl, id, id, id, id⟩ rfl rfl

theorem moves_enterRealign {s : State} {p : Port} (hlinked : (s.port p).state.linked = true) :
    Moves (.realigning p) s (s.enterRealign p) := by
  have hhalt : Moves (.realigning p) s (s.setPort p (s.port p).realigning) := (Move.halt (recordKept_realigning hlinked)).moves
  have hended := hhalt.trans (moves_endPowerCommand (s.setPort p (s.port p).realigning) p (s.port p))
  have hretrained := hended.trans (moves_retrainEntries _ p)
  have hcounted := hretrained.trans (moves_attempts _ p s.realignLimit)
  exact hcounted.trans (moves_sendAlign _ p)

theorem recordShut_endSession (x : PortRecord) {st : PortState} (h : st.linked = false) : RecordShut x (x.endSession st) :=
  ⟨rfl, rfl, rfl, rfl, rfl, rfl, rfl, h, rfl, ⟨rfl, rfl, rfl, rfl⟩, rfl⟩

/-- The first two steps of link loss: the session is over and its claims are ORPHANED. -/
def State.sessionLost (s : State) (p : Port) : State :=
  (s.setPort p ((s.port p).endSession .listen)).orphaned p

theorem moves_sessionLost (s : State) (p : Port) : Moves (.closing p) s (s.sessionLost p) :=
  (Move.shut (recordShut_endSession _ rfl)).moves.trans Move.orphan.moves

theorem moves_holdOrphans {s : State} {p : Port} (hnone : NoEntryOf s p) : Moves (.closing p) s (s.holdOrphans p) := by
  unfold State.holdOrphans
  split_ifs
  · exact .refl
  · exact (moves_retireWhere (fun c hc => ((c.isOrphanOf_iff p).mp hc).1) (.inl hnone)).trans (moves_raisePort ..)
  · exact Move.holdStart.moves.trans (moves_raisePort ..)

theorem State.linkLoss_eq_sessionLost (s : State) (p : Port) :
    s.linkLoss p = ((((s.sessionLost p).dropEntries p).holdOrphans p).raisePort p .linkLost).endLinkCommands p := by
  rw [State.sessionLost, ← State.orphanClaims_eq]
  rfl

/-- What follows in link loss once the session is over. -/
theorem moves_linkLost (s : State) (p : Port) :
    Moves (.closing p) s ((((s.dropEntries p).holdOrphans p).raisePort p .linkLost).endLinkCommands p) :=
  (((moves_dropEntries ..).trans (moves_holdOrphans (noEntryOf_dropEntries _ _))).trans (moves_raisePort ..)).trans
    (moves_endLinkCommands ..)

theorem moves_linkLoss (s : State) (p : Port) : Moves (.closing p) s (s.linkLoss p) := by
  rw [State.linkLoss_eq_sessionLost]
  exact (moves_sessionLost s p).trans (moves_linkLost _ p)

/-- The first step of the end of a session by a port command. -/
def State.sessionClosed (s : State) (p : Port) (st : PortState) (signalling : Timer) : State :=
  s.setPort p { (s.port p).endSession st with holdTimer := none, greetFailures := 0, resetTimer := signalling }

theorem recordShut_closed (x : PortRecord) {st : PortState} (h : st.linked = false) (signalling : Timer) :
    RecordShut x { x.endSession st with holdTimer := none, greetFailures := 0, resetTimer := signalling } :=
  ⟨rfl, rfl, rfl, rfl, rfl, rfl, rfl, h, rfl, ⟨rfl, rfl, rfl, rfl⟩, rfl⟩

theorem moves_closePort (s : State) (p : Port) {st : PortState} (h : st.linked = false) (signalling : Timer) :
    Moves (.closing p) s (s.closePort p st signalling) := by
  have hshut : Moves (.closing p) s (s.sessionClosed p st signalling) :=
    (Move.shut (recordShut_closed (s.port p) h signalling)).moves
  exact (hshut.trans (moves_dropEntries ..)).trans (moves_retireWhere (fun _ => id) (.inl (noEntryOf_dropEntries _ _)))

theorem moves_startDrain {s : State} {n : SlotNo} {c : Claim} {cause : RetireCause} (hown : c.owner ≠ .fixed) (hc : s.claim n = some c)
    (hlinked : ∀ p, c.isBoardOf p = true → c.phase = .orphaned → (s.port p).state.linked = true) :
    Moves (.moving n) s (s.startDrain n c cause) :=
  ((Move.drain hown hc hlinked).moves.trans (moves_purge ..)).trans (moves_settle ..)

theorem moves_acceptReshape {s : State} {n : SlotNo} {c : Claim} {b z : Nat} (hown : c.owner ≠ .fixed) (hc : s.claim n = some c)
    (hroom : s.overlaps c.space b z (some n) = false) (hlinked : ∀ p, c.isBoardOf p = true → (s.port p).state.linked = true) :
    Moves (.moving n) s (s.acceptReshape n c b z) :=
  ((Move.reshape hown hc hroom hlinked).moves.trans (moves_purge ..)).trans (moves_settle ..)

/-- A law that every move keeps, in every scope, and that holds right after reset, is kept by every stage. -/
theorem Stage.keeps_of_moves {P : State → Prop} (hP : ∀ o s t, Move o s t → P s → P t) (hfresh : ∀ t, Fresh t → P t) {s t : State}
    (h : Stage s t) (hs : P s) : P t := by
  have keeps {o : Scope} {u : State} (hmoves : Moves o s u) : P u := hmoves.keeps (hP o) hs
  cases h with
  | move h => exact keeps h.moves
  | realign hlinked => exact keeps (moves_enterRealign hlinked)
  | lose => exact keeps (moves_linkLoss ..)
  | close hst => exact keeps (moves_closePort _ _ hst _)
  | drain hown hc hlinked => exact keeps (moves_startDrain hown hc hlinked)
  | reshape hown hc hroom hlinked => exact keeps (moves_acceptReshape hown hc hroom hlinked)
  | fresh h => exact hfresh _ h

/-! ### Links -/

/-- In the scope of a claim no session opens and none ends. -/
theorem State.port_afterSettle (s : State) (n : SlotNo) (c : Claim) (p : Port) :
    ∃ count marks, (s.afterSettle n c).port p =
      { s.port p with claimCount := (s.port p).claimCount - count, flags := (s.port p).flags ||| marks } := by
  have hsame : ∃ count marks, s.port p =
      { s.port p with claimCount := (s.port p).claimCount - count, flags := (s.port p).flags ||| marks } := ⟨0, 0, by simp⟩
  unfold State.afterSettle
  split
  next q _ _ _ _ =>
    rw [State.port_setPort]
    split
    next hq =>
      subst hq
      exact ⟨_, _, rfl⟩
    next => exact hsame
  all_goals exact hsame

theorem State.port_lowered (s : State) (n : SlotNo) (p : Port) :
    ∃ count marks, (s.lowered n).port p =
      { s.port p with claimCount := (s.port p).claimCount - count, flags := (s.port p).flags ||| marks } := by
  have hsame : ∃ count marks, s.port p =
      { s.port p with claimCount := (s.port p).claimCount - count, flags := (s.port p).flags ||| marks } := ⟨0, 0, by simp⟩
  unfold State.lowered
  split
  · exact hsame
  · split
    · exact State.port_afterSettle ..
    · exact hsame

theorem Moves.linked {n : SlotNo} {s t : State} (h : Moves (.moving n) s t) (p : Port) :
    (t.port p).state.linked = (s.port p).state.linked := by
  refine h.keeps (P := fun u => (u.port p).state.linked = (s.port p).state.linked) (fun u v hmove hu => ?_) rfl
  rw [← hu]
  cases hmove with
  | frame h => rw [h.port]
  | record h =>
    rw [State.port_setPort]
    split
    next hp => rw [h.linked, hp]
    next => rfl
  | holdStop | freeTags | clearList | retire =>
    rw [State.port_setPort]
    split
    next hp => rw [← hp]
    next => rfl
  | reshape | drain => rfl
  | settle =>
    obtain ⟨_, _, hport⟩ := State.port_afterSettle ‹_› ‹_› ‹_› p
    rw [hport]
  | @release _ _ k e tags flags =>
    obtain ⟨_, _, hport⟩ := State.port_lowered ((u.setPort e.port ((u.port e.port).left k tags flags)).setEntry k none) e.slot p
    rw [hport, State.port_setEntry, State.port_setPort]
    split
    next hp => rw [← hp]; rfl
    next => rfl

variable {s : State}

/-- A record that keeps its laws and does not leave RUN. -/
theorem stages_record {p : Port} {y : PortRecord} (h : RecordKept s.dozeIdleTime (s.port p) y)
    (hissuing : (s.port p).Issuing → y.Issuing ∨ NoEntryOf s p) : Stages s (s.setPort p y) :=
  (Move.record h hissuing).moves.stages

theorem stages_greetFailure {p : Port} (hgreet : (s.port p).state = .greet) : Stages s (s.greetFailure p) := by
  have hkept (st : PortState) (hst : st.linked = false) : RecordKept s.dozeIdleTime (s.port p) ((s.port p).greetFailed st) := by
    refine ⟨rfl, rfl, rfl, rfl, rfl, rfl, rfl, rfl, ?_, fun h hshake => ?_, fun h _ => ?_, fun h htimer => ?_, id⟩
    · change st.linked = (s.port p).state.linked
      rw [hst, hgreet]
      rfl
    · simpa [hgreet] using h hshake
    · exact h (by simp [hgreet, PortState.linked])
    · simpa [hgreet] using h htimer
  have hidle : ¬ (s.port p).Issuing := not_issuing_of_state (by simp [hgreet])
  rw [State.greetFailure_eq]
  split
  · exact (moves_record_of_not_issuing (hkept _ rfl) hidle).stages
  · refine Moves.stages ?_
    have h := (moves_record_of_not_issuing (o := .whole) (hkept .fault rfl) hidle).trans (moves_raisePort _ p .fault)
    rwa [State.raisePort_eq, State.port_setPort_self, State.portBecomes_setPort] at h

end Sys2Proof.Machine
end

section
/-! PROOFS. The walk over the operations of the ports: each is a chain of stages. -/

namespace Sys2Proof.Machine

open Sys2Proof

variable {s : State} {o : Scope}

/-! ### Records of ports that are not linked, and of ports that are -/

theorem not_issuing_of_unlinked {x : PortRecord} (h : x.state.linked = false) : ¬ x.Issuing :=
  not_issuing_of_state fun hrun => by simp [hrun, PortState.linked] at h

/-- A record out of the linked states, which stays out of them. -/
theorem recordKept_unlinked {d : Nat} {x y : PortRecord} (hx : x.state.linked = false) (hst : y.state.linked = false)
    (hy : y = { x with
      present := y.present, state := y.state, greetFailures := y.greetFailures, greetTimer := y.greetTimer, resetTimer := y.resetTimer
      sendSeq := y.sendSeq, endedTags := y.endedTags }) : RecordKept d x y := by
  have hrun : x.state ≠ .run := fun h => by simp [h, PortState.linked] at hx
  rw [hy]
  exact ⟨rfl, rfl, rfl, rfl, rfl, rfl, rfl, rfl, hst.trans hx.symm, fun h hshake => absurd (h hshake) hrun, fun h _ => h hx,
    fun h htimer => absurd (h htimer).1 hrun, id⟩

theorem moves_unlinked {p : Port} {y : PortRecord} (hx : (s.port p).state.linked = false) (hst : y.state.linked = false)
    (hy : y = { s.port p with
      present := y.present, state := y.state, greetFailures := y.greetFailures, greetTimer := y.greetTimer, resetTimer := y.resetTimer
      sendSeq := y.sendSeq, endedTags := y.endedTags }) : Moves o s (s.setPort p y) :=
  moves_record_of_not_issuing (recordKept_unlinked hx hst hy) (not_issuing_of_unlinked hx)

/-- A record that stands but for its counters, its presence and the timers that no law reads. -/
theorem moves_counters {p : Port} {y : PortRecord}
    (hy : y = { s.port p with
      present := y.present, greetFailures := y.greetFailures, realignAttempts := y.realignAttempts, realignLimit := y.realignLimit
      attemptTimer := y.attemptTimer, answerTimer := y.answerTimer, wakeExitTimer := y.wakeExitTimer, sendSeq := y.sendSeq
      recvSeq := y.recvSeq, endedTags := y.endedTags, flags := y.flags }) : Moves o s (s.setPort p y) := by
  rw [hy]
  exact moves_record ⟨rfl, rfl, rfl, rfl, rfl, rfl, rfl, rfl, rfl, id, id, id, id⟩ rfl rfl

/-- The lists and the notice of a linked port (R25, R36, R175). -/
theorem moves_lists {p : Port} {y : PortRecord} (hlinked : (s.port p).state.linked = true)
    (hy : y = { s.port p with
      owed := y.owed, noticeAckOwed := y.noticeAckOwed, notice := y.notice, receiveList := y.receiveList })
    (hroom : (s.port p).RoomOk → y.RoomOk) : Moves o s (s.setPort p y) := by
  have hkept : RecordKept s.dozeIdleTime (s.port p) y := by
    rw [hy]
    exact ⟨rfl, rfl, rfl, rfl, rfl, rfl, rfl, rfl, rfl, id, fun _ h => absurd (hlinked.symm.trans h) (by simp), id,
      by rw [← hy]; exact hroom⟩
  exact moves_record hkept (by rw [hy]) (by rw [hy])

/-! ### RUN, DOZE and SLEEP (R107, R120 to R126, R129, R131) -/

/-- A linked port enters RUN. -/
theorem moves_enterRun {p : Port} (hlinked : (s.port p).state.linked = true) : Moves o s (s.enterRun p) := by
  have hkept : RecordKept s.dozeIdleTime (s.port p) { s.port p with state := .run } :=
    ⟨rfl, rfl, rfl, rfl, rfl, rfl, rfl, rfl, hlinked.symm, fun _ _ => rfl, fun _ h => absurd h (by simp [PortState.linked]),
      fun h htimer => ⟨rfl, (h htimer).2⟩, id⟩
  exact (Move.record hkept fun hissuing => .inl ⟨rfl, hissuing.2⟩).moves.trans (moves_restartIdle _ p)

/-- A linked port enters DOZE or SLEEP: it has a handshake outstanding, or is not in RUN, or has no entry. -/
theorem moves_enterPower {p : Port} {st : PortState} (hlinked : (s.port p).state.linked = true) (hst : st.linked = true)
    (hempty : (s.port p).Issuing → NoEntryOf s p) : Moves o s (s.enterPower p st) := by
  have hkept : RecordKept s.dozeIdleTime (s.port p)
      { s.port p with state := st, handshake := .none, answerTimer := none, dozeIdleTimer := none } :=
    ⟨rfl, rfl, rfl, rfl, rfl, rfl, rfl, rfl, hst.trans hlinked.symm, fun _ h => absurd rfl h,
      fun _ h => absurd (hst.symm.trans h) (by simp), fun _ h => absurd h Bool.false_ne_true, id⟩
  exact (Move.record hkept fun h => .inr (hempty h)).moves

theorem moves_wakeIfWork (s : State) (p : Port) : Moves o s (s.wakeIfWork p) := by
  unfold State.wakeIfWork
  split
  · exact moves_wakeCause ..
  · exact .refl

/-- The handshake outstanding ends, with the port kept in RUN. -/
theorem moves_endHandshake {p : Port} (hshake : (s.port p).handshake ≠ .none) : Moves o s (s.endHandshake p) := by
  have hkept : RecordKept s.dozeIdleTime (s.port p) { s.port p with handshake := .none, answerTimer := none } :=
    ⟨rfl, rfl, rfl, rfl, rfl, rfl, rfl, rfl, rfl, fun _ h => absurd rfl h, id, fun h htimer => absurd (h htimer).2.2.2 hshake, id⟩
  exact (moves_record_of_not_issuing hkept (not_issuing_of_handshake hshake)).trans (moves_restartIdle _ p)

/-- A handshake starts in RUN on a port with no entry. -/
theorem moves_startHandshake {p : Port} {shake : Handshake} {limit : Timer} (hrun : (s.port p).state = .run)
    (hempty : NoEntryOf s p) :
    Moves o s (s.setPort p { s.port p with handshake := shake, dozeIdleTimer := none, answerTimer := limit }) := by
  have hkept : RecordKept s.dozeIdleTime (s.port p)
      { s.port p with handshake := shake, dozeIdleTimer := none, answerTimer := limit } :=
    ⟨rfl, rfl, rfl, rfl, rfl, rfl, rfl, rfl, rfl, fun _ _ => hrun, id, fun _ h => absurd h Bool.false_ne_true, id⟩
  exact (Move.record hkept fun _ => .inr hempty).moves

theorem noEntryOf_of_hasEntry {p : Port} (h : s.hasEntry p = false) : NoEntryOf s p := by
  intro k e he hport
  have hk := List.any_eq_false.mp h k (mem_allEntries k)
  simp [he, hport] at hk

theorem noEntryOf_of_portEmpty {p : Port} (h : s.portEmpty p = true) : NoEntryOf s p := by
  simp only [State.portEmpty, Bool.and_eq_true, Bool.not_eq_true'] at h
  exact noEntryOf_of_hasEntry h.1.1

theorem moves_endWake {p : Port} (hlinked : (s.port p).state.linked = true) : Moves o s (s.endWake p) := by
  have hrun : Moves o _ ((s.setPort p { s.port p with wakeExitTimer := none }).enterRun p) :=
    moves_enterRun (by rw [State.port_setPort_self]; exact hlinked)
  exact ((moves_counters rfl).trans hrun).trans (moves_reportEnd ..)

theorem moves_returnToRun {p : Port} (hlinked : (s.port p).state.linked = true) (seq : Byte) : Moves o s (s.returnToRun p seq) := by
  have hrun : Moves o _ ((s.setPort p
      { s.port p with attemptTimer := none, realignAttempts := 0, recvSeq := seq + 1, sendSeq := 1 }).enterRun p) :=
    moves_enterRun (by rw [State.port_setPort_self]; exact hlinked)
  exact ((moves_counters rfl).trans hrun).trans (moves_reportEnd ..)

theorem moves_judgeSleepReq {p : Port} (hrun : (s.port p).state = .run) : Moves o s (s.judgeSleepReq p) := by
  unfold State.judgeSleepReq
  split
  next hempty =>
    have hnone : NoEntryOf s p := noEntryOf_of_portEmpty hempty
    have hsent : ((s.transmit p .sleepAck).port p).state.linked = true := by
      rw [State.transmit_eq, State.port_setPort_self]
      exact congrArg PortState.linked hrun
    refine (moves_transmit s p .sleepAck).trans (moves_enterPower hsent rfl fun _ => hnone)
  next => exact moves_transmit ..

/-! ### What a board's message does in a linked state -/

theorem linked_of_state {x : PortRecord} {st : PortState} (h : x.state = st) (hst : st.linked = true) : x.state.linked = true := by
  rw [h, hst]

theorem moves_takeDozeAck (s : State) (p : Port) : Moves o s (s.takeDozeAck p) := by
  unfold State.takeDozeAck
  split
  next h =>
    obtain ⟨hrun, hshake⟩ := h
    refine (moves_enterPower (linked_of_state hrun rfl) rfl fun hissuing => ?_).trans (moves_wakeIfWork ..)
    exact absurd hissuing.2 (by simp [hshake])
  next => exact .refl

theorem moves_takeDozeNak (s : State) (p : Port) : Moves o s (s.takeDozeNak p) := by
  unfold State.takeDozeNak
  split
  next h => exact moves_endHandshake (by simp [h.2])
  next => exact .refl

theorem moves_takeSleepReq (s : State) (p : Port) : Moves o s (s.takeSleepReq p) := by
  unfold State.takeSleepReq
  split
  next hrun =>
    split
    · exact moves_judgeSleepReq hrun
    next hshake =>
      refine (moves_endHandshake (by simp [hshake])).trans (moves_judgeSleepReq ?_)
      rw [State.endHandshake, State.restartIdle_eq, State.port_setPort_self, State.modifyPort_eq_setPort, State.port_setPort_self]
      exact hrun
    · exact moves_transmit ..
  next hdoze =>
    have hsent : ((s.transmit p .sleepAck).port p).state = .doze := by
      rw [State.transmit_eq, State.port_setPort_self]
      exact hdoze
    refine (moves_transmit s p .sleepAck).trans (moves_enterPower (linked_of_state hsent rfl) rfl fun hissuing => ?_)
    exact absurd hissuing.1 (by simp [hsent])
  · exact moves_transmit ..
  · exact moves_transmit ..
  all_goals exact .refl

theorem moves_takeSleepAck (s : State) (p : Port) : Moves o s (s.takeSleepAck p) := by
  unfold State.takeSleepAck
  split
  next h =>
    obtain ⟨hrun, hshake⟩ := h
    refine ((moves_enterPower (linked_of_state hrun rfl) rfl fun hissuing => ?_).trans (moves_reportEnd ..)).trans (moves_wakeIfWork ..)
    exact absurd hissuing.2 (by simp [hshake])
  next => exact .refl

theorem moves_takeSleepNak (s : State) (p : Port) : Moves o s (s.takeSleepNak p) := by
  unfold State.takeSleepNak
  split
  next h => exact (moves_endHandshake (by simp [h.2])).trans (moves_reportEnd ..)
  next => exact .refl

theorem moves_takeWake (s : State) (p : Port) : Moves o s (s.takeWake p) := by
  have hanswer (st : PortState) (hst : st.linked = true) (h : (s.port p).state = st) :
      Moves o s ((s.transmit p .wakeAck).enterRun p) := by
    refine (moves_transmit ..).trans (moves_enterRun ?_)
    rw [State.transmit_eq, State.port_setPort_self]
    exact linked_of_state h hst
  unfold State.takeWake
  split
  next h => exact hanswer _ rfl h
  next h => exact hanswer _ rfl h
  next h => exact moves_endWake (linked_of_state h rfl)
  next => exact moves_transmit ..
  all_goals exact .refl

theorem moves_takeWakeAck (s : State) (p : Port) : Moves o s (s.takeWakeAck p) := by
  unfold State.takeWakeAck
  split
  next h => exact moves_endWake (linked_of_state h rfl)
  next => exact .refl

theorem moves_takeNotice (s : State) (p : Port) (code : Byte) : Moves o s (s.takeNotice p code) := by
  unfold State.takeNotice
  split
  next hrun =>
    split
    · have hnotice : Moves o s (s.setPort p { s.port p with notice := some code }) :=
        moves_lists (linked_of_state hrun rfl) rfl id
      exact hnotice.trans (moves_raisePort ..)
    · exact moves_transmit ..
  all_goals first | exact moves_protocolError .. | exact .refl

theorem moves_queueClaimMessage (s : State) (p : Port) (m : ClaimMessage) : Moves o s (s.queueClaimMessage p m) := by
  unfold State.queueClaimMessage
  split
  next h =>
    obtain ⟨hrun, hroom⟩ := h
    refine moves_lists (linked_of_state hrun rfl) rfl fun _ => ?_
    simp only [PortRecord.RoomOk, List.length_append, List.length_singleton]
    exact hroom
  next => exact moves_protocolError ..

theorem moves_dropHead {p : Port} (hrun : (s.port p).state = .run) : Moves o s (s.dropHead p) := by
  refine moves_lists (linked_of_state hrun rfl) rfl fun hroom => ?_
  simp only [PortRecord.RoomOk, List.length_tail] at hroom ⊢
  omega

/-! ### Link errors (R102 to R110) -/

theorem stages_attemptFailure (s : State) (p : Port) : Stages s (s.attemptFailure p) := by
  have hcount : Moves .whole s (s.setPort p { s.port p with realignAttempts := (s.port p).realignAttempts + 1 }) := moves_counters rfl
  simp only [State.attemptFailure]
  split
  · exact hcount.stages.trans Stage.lose.stages
  · exact hcount.stages.trans (moves_sendAlign ..).stages

theorem stages_badCheck (s : State) (p : Port) : Stages s (s.badCheck p) := by
  unfold State.badCheck
  split
  next h => exact (Stage.realign (linked_of_state h rfl)).stages
  next h => exact (Stage.realign (linked_of_state h rfl)).stages
  next h => exact (Stage.realign (linked_of_state h rfl)).stages
  next h => exact (Stage.realign (linked_of_state h rfl)).stages
  next => exact stages_attemptFailure ..
  all_goals exact .refl

/-- A message makes a chain of stages where its own effect does, wherever it arrives (R95, R96). -/
theorem stages_receive (s : State) (p : Port) (seq : Byte) {act : State → State} (hact : ∀ u, Stages u (act u)) :
    Stages s (s.receive p seq act) := by
  have hcompared : Stages s (if seq = (s.port p).recvSeq then
      act ((s.modifyPort p fun x => { x with recvSeq := x.recvSeq + 1 }).restartIdle p) else s.badCheck p) := by
    split
    · exact ((moves_counters rfl).stages.trans (moves_restartIdle _ p).stages).trans (hact _)
    · exact stages_badCheck ..
  unfold State.receive
  split
  case h_5 | h_6 => exact hact s
  case h_7 | h_8 | h_9 | h_10 => exact hcompared
  all_goals exact .refl

theorem stages_takeAlignAck (s : State) (p : Port) (seq : Byte) (y : Word) : Stages s (s.takeAlignAck p seq y) := by
  unfold State.takeAlignAck
  split
  next h =>
    split
    · exact (moves_returnToRun (linked_of_state h rfl) seq).stages
    · exact Stage.lose.stages
  all_goals exact .refl

theorem stages_wakeFailure {p : Port} (hwaking : (s.port p).state = .waking) : Stages s (s.wakeFailure p) := by
  have hmoves (o : Scope) :
      Moves o s ((s.endEntries (fun e => e.port == p) .wakeFail).reportEnd .portWake p.val .wakeFailed) :=
    (moves_endEntries ..).trans (moves_reportEnd ..)
  refine (hmoves .whole).stages.trans (Stage.realign ?_).stages
  rw [(hmoves (.moving 0)).linked p]
  exact linked_of_state hwaking rfl

/-! ### Presence and greeting (R93, R94, R99, R100, R142) -/

theorem moves_enterGreet {p : Port} (h : (s.port p).state = .listen) : Moves o s (s.enterGreet p) :=
  moves_unlinked (by rw [h]; rfl) rfl rfl

theorem stages_losePartner (s : State) (p : Port) : Stages s (s.losePartner p) := by
  unfold State.losePartner
  split
  next h => exact (moves_unlinked (by rw [h]; rfl) rfl rfl).stages
  case h_2 | h_3 | h_4 | h_5 | h_6 => exact Stage.lose.stages
  all_goals exact .refl

theorem State.claim_freed (s : State) (p : Port) (picks : Claim → Bool) (n : SlotNo) :
    (s.freed p picks).claim n = (s.claim n).filter fun c => !picks c := by
  by_cases h : s.pickedIn picks allSlots = 0
  · rw [show s.freed p picks = s from if_pos h]
    cases hc : s.claim n with
    | none => rfl
    | some c =>
      have hnone := List.countP_eq_zero.mp h n (mem_allSlots n)
      have hpick : picks c = false := by simpa [hc] using hnone
      exact (if_pos (by simp [hpick])).symm
  · rw [State.freed_of_picked h]
    simp [State.portBecomes, State.without, State.claim, State.driveAttn, State.setPort]

theorem not_orphan_of_freed (s : State) (p : Port) :
    ∀ n c, (s.freed p fun d => d.isOrphanOf p).claim n = some c → c.isOrphanOf p = false := by
  intro n c hc
  rw [State.claim_freed, Option.filter_eq_some_iff] at hc
  simpa using hc.2

theorem not_orphan_of_orphans {p : Port} (h : s.orphans p = []) : ∀ n c, s.claim n = some c → c.isOrphanOf p = false := by
  intro n c hc
  by_contra horphan
  have hn : n ∈ s.orphans p := (s.mem_orphans p n).mpr ⟨c, hc, by simpa using horphan⟩
  simp [h] at hn

theorem State.revived_of_no_orphan {p : Port} (h : ∀ n c, s.claim n = some c → c.isOrphanOf p = false) : s.revived p = s := by
  have hclaim (n : SlotNo) : (s.revived p).claim n = s.claim n := by
    rw [State.claim_revived]
    cases hc : s.claim n with
    | none => rfl
    | some c => simp [Claim.revived, h n c hc]
  calc s.revived p = { s with claims := (s.revived p).claims } := rfl
    _ = s := by rw [State.claims_ext hclaim]

theorem recordOpened_timed {x y : PortRecord} (hgreet : x.state = .greet) (hrun : y.state = .run) (hquota : y.quota = x.quota)
    (hcount : y.claimCount = x.claimCount) (hhold : y.holdTime = x.holdTime) (hlist : y.issueList = x.issueList)
    (htags : y.tagsInUse = x.tagsInUse) (hid : y.identity.isSome = true) (hcredit : 1 ≤ y.credit ∧ y.credit ≤ 8)
    (hshake : y.handshake = x.handshake) (hreceive : y.receiveList = x.receiveList) (marks : BitVec 12) :
    RecordOpened s.dozeIdleTime x ((s.timed y).raising marks) :=
  ⟨hgreet, hrun, hquota, hcount, hhold, hlist, htags, hid, hcredit, hshake, idleOk_idleOf s y, hreceive⟩

/-- The opening of a session on a port, as a chain that ends with its flags and ATTN. -/
theorem moves_opening {p : Port} {y : PortRecord} (h : RecordOpened s.dozeIdleTime (s.port p) y)
    (horphans : ∀ n c, s.claim n = some c → c.isOrphanOf p = true → c.identity = y.identity) :
    Moves .whole s ((s.revived p).portBecomes p y) :=
  (Move.opening h horphans).moves.core (sameCore_driveAttn _)

theorem HelloMsg.good_iff (m : HelloMsg) : m.good = true ↔ m.revision = 1 ∧ 1 ≤ m.credit.toNat ∧ m.credit.toNat ≤ 8 := by
  simp [HelloMsg.good, and_assoc]

theorem Claim.identity_of_orphan {c : Claim} {p : Port} (h : c.isOrphanOf p = true) : c.identity = some c.owner.identity := by
  unfold Claim.identity Owner.identity
  cases howner : c.owner <;> simp [Claim.isOrphanOf, Claim.isBoardOf, howner] at h ⊢

/-- The opening of a session once the orphans of the port are retired (R143). -/
theorem stages_freed_opening {p : Port} {m : HelloMsg} (hgreet : (s.port p).state = .greet)
    (hcredit : 1 ≤ m.credit.toNat ∧ m.credit.toNat ≤ 8) (hsome : s.orphans p ≠ []) (seq : Byte) :
    Stages s ((s.freed p fun c => c.isOrphanOf p).portBecomes p (PortRecord.raising
      (s.timed
        { (s.port p).opened p seq m 0 with claimCount := ((s.freed p fun c => c.isOrphanOf p).port p).claimCount }) 0x061)) := by
  have hfreed : Moves .whole s (s.freed p fun c => c.isOrphanOf p) := by
    rw [← State.retireWhere_eq_freed]
    exact moves_retireOrphans s p
  have hnone := not_orphan_of_freed s p
  have hport : (s.freed p fun c => c.isOrphanOf p).port p =
      PortRecord.raising { s.port p with claimCount := ((s.freed p fun c => c.isOrphanOf p).port p).claimCount } 0x040 := by
    rw [State.freed_of_picked (State.pickedIn_orphans_ne_zero hsome), State.port_portBecomes_self]
    rfl
  have hdoze : (s.freed p fun c => c.isOrphanOf p).dozeIdleTime = s.dozeIdleTime := by
    rw [State.freed_of_picked (State.pickedIn_orphans_ne_zero hsome)]
    rfl
  generalize s.freed p (fun c => c.isOrphanOf p) = t at hfreed hnone hport hdoze ⊢
  have htimed : s.timed { (s.port p).opened p seq m 0 with claimCount := (t.port p).claimCount } =
      t.timed { (s.port p).opened p seq m 0 with claimCount := (t.port p).claimCount } := by
    simp only [State.timed, State.idleOf, hdoze]
  have hopened : RecordOpened t.dozeIdleTime (t.port p)
      ((t.timed { (s.port p).opened p seq m 0 with claimCount := (t.port p).claimCount }).raising 0x061) := by
    refine recordOpened_timed (s := t) (x := t.port p) (y := { (s.port p).opened p seq m 0 with claimCount := (t.port p).claimCount })
      ?_ rfl ?_ rfl ?_ ?_ ?_ rfl hcredit ?_ ?_ _
    case refine_1 => rw [hport]; exact hgreet
    all_goals rw [hport]; rfl
  have hopen := moves_opening hopened fun n c hc h => absurd (hnone n c hc) (by simp [h])
  rw [State.revived_of_no_orphan hnone, ← htimed] at hopen
  exact hfreed.stages.trans hopen.stages

theorem stages_acceptHello {p : Port} {m : HelloMsg} (hgreet : (s.port p).state = .greet) (hgood : m.good = true) (seq : Byte) :
    Stages s (s.acceptHello p seq m) := by
  obtain ⟨-, hcredit⟩ := (HelloMsg.good_iff m).mp hgood
  by_cases hnone : s.orphans p = []
  · have hopen := moves_opening (s := s) (p := p) (y := (s.timed ((s.port p).opened p seq m 0)).raising 0x001)
      (recordOpened_timed (y := (s.port p).opened p seq m 0) hgreet rfl rfl rfl rfl rfl rfl rfl hcredit rfl rfl _)
      fun n c hc h => absurd (not_orphan_of_orphans hnone n c hc) (by simp [h])
    rw [State.revived_of_no_orphan (not_orphan_of_orphans hnone)] at hopen
    rw [State.acceptHello_no_orphan hnone]
    exact hopen.stages
  · by_cases hmatch : s.orphansMatch p m.identity
    · rw [State.acceptHello_match hnone hmatch]
      have hopened := recordOpened_timed (s := s) (y := ((s.port p).opened p seq m (s.orphans p).length).owingAll
        (allHandles.filterMap (s.grantOf p (s.orphans p)))) hgreet rfl rfl rfl rfl rfl rfl rfl hcredit rfl rfl 0x011
      refine (moves_opening hopened fun n c hc h => ?_).stages
      rw [Claim.identity_of_orphan h, hmatch.2 n ((s.mem_orphans p n).mpr ⟨c, hc, h⟩) c hc]
      rfl
    · rw [State.acceptHello_not_match hnone hmatch]
      exact (stages_freed_opening hgreet hcredit hnone seq)

end Sys2Proof.Machine
end

section
/-! PROOFS. The walk over accesses, claim messages, host commands and requests: every step is a chain of stages. -/

namespace Sys2Proof.Machine

open Sys2Proof

variable {s : State} {o : Scope}

/-! ### Pieces and their answers (R70 to R79) -/

theorem PortRecord.freeTag_some {x : PortRecord} {t : PieceTag} (h : x.freeTag = some t) : t.val < x.credit ∧ x.tagsInUse[t] = false := by
  simpa using List.find?_some h

theorem moves_issuePiece {p : Port} {k : EntryNo} {e : Entry} {t : PieceTag} (hlist : k ∈ (s.port p).issueList)
    (he : s.entry k = some e) (hissuing : (s.port p).Issuing) (htag : (s.port p).freeTag = some t) :
    Moves .whole s (s.issuePiece p k e t) := by
  obtain ⟨hcredit, hfree⟩ := PortRecord.freeTag_some htag
  exact (Move.issue hlist he hissuing hcredit hfree).moves.trans (moves_transmit ..)

/-- The place of a tag holds an entry of the port with a piece OUTSTANDING under it (R74). -/
theorem State.entryOfTag_some {p : Port} {tag : Nat} {k : EntryNo} {e : Entry} (h : s.entryOfTag p tag = some k)
    (he : s.entry k = some e) : e.port = p ∧ ∃ t : PieceTag, t.val = tag ∧ .outstanding t ∈ e.pieces := by
  have hk := List.find?_some h
  simp only [he, Bool.and_eq_true, beq_iff_eq, List.any_eq_true] at hk
  obtain ⟨hport, x, hmem, hholds⟩ := hk
  cases x with
  | outstanding t => exact ⟨hport, t, by simpa [PieceOutcome.holds] using hholds, hmem⟩
  | notIssued | ended => simp [PieceOutcome.holds] at hholds

theorem getElem?_findIdx_holds {l : List PieceOutcome} {t : PieceTag} (h : .outstanding t ∈ l) :
    l[l.findIdx fun x => x.holds t.val]? = some (.outstanding t) := by
  have hlt : (l.findIdx fun x => x.holds t.val) < l.length :=
    List.findIdx_lt_length_of_exists ⟨_, h, by simp [PieceOutcome.holds]⟩
  have hholds := List.findIdx_getElem (w := hlt)
  rw [List.getElem?_eq_getElem hlt]
  generalize l[l.findIdx fun x => x.holds t.val] = x at hholds
  cases x with
  | outstanding u =>
    simp only [PieceOutcome.holds, beq_iff_eq] at hholds
    rw [Fin.ext hholds]
  | notIssued | ended => simp [PieceOutcome.holds] at hholds

theorem pieceEnded_completePiece (e : Entry) (k : Nat) (m : CompleteMsg) :
    PieceEnded e k (e.judge m) (e.completePiece k m) := by
  have hnote (d : Entry) (i : Nat) (st : Status) : (d.note i st).owes = d.owes ∧ (d.note i st).slot = d.slot ∧
      (d.note i st).port = d.port ∧ (d.note i st).issued = d.issued := by
    unfold Entry.note
    split
    · exact ⟨rfl, rfl, rfl, rfl⟩
    · split
      · exact ⟨rfl, rfl, rfl, rfl⟩
      · split <;> exact ⟨rfl, rfl, rfl, rfl⟩
  have hstore (d : Entry) (data : List Byte) : (d.store k data).pieces = d.pieces ∧ (d.store k data).status = d.status ∧
      (d.store k data).setBy = d.setBy ∧ (d.store k data).owes = d.owes ∧ (d.store k data).slot = d.slot ∧
      (d.store k data).port = d.port ∧ (d.store k data).issued = d.issued := by
    unfold Entry.store
    split <;> exact ⟨rfl, rfl, rfl, rfl, rfl, rfl, rfl⟩
  obtain ⟨howes, hslot, hport, hissued⟩ := hnote { e with pieces := e.pieces.set k (.ended (e.judge m)) } k (e.judge m)
  unfold Entry.completePiece
  dsimp only
  split
  · obtain ⟨h1, h2, h3, h4, h5, h6, h7⟩ := hstore { e.endPiece k (e.judge m) with
      completed := (e.endPiece k (e.judge m)).completed + 1 } m.data
    exact ⟨h1, h2, h3, h4.trans howes, h5.trans hslot, h6.trans hport, h7.trans hissued⟩
  · exact ⟨rfl, rfl, rfl, howes, hslot, hport, hissued⟩

/-- Freeing the tag of an OUTSTANDING piece of the entry leaves the tags that the entry does not hold. -/
theorem tagsStay_set {x : PortRecord} {e : Entry} {t : PieceTag} (h : .outstanding t ∈ e.pieces) :
    TagsStay x e (x.tagsInUse.set t.val false t.isLt) := by
  intro u hu hnot
  have hne : t.val ≠ u.val := fun heq => hnot (Fin.ext heq ▸ h)
  simp only [Fin.getElem_fin, Vector.getElem_set_ne _ _ hne]
  exact hu

theorem moves_matchedComplete {k : EntryNo} {e : Entry} {m : CompleteMsg} {t : PieceTag} (he : s.entry k = some e)
    (htag : t.val = m.tag.toNat) (hmem : .outstanding t ∈ e.pieces) : Moves .whole s (s.matchedComplete e.port k e m) := by
  have hset : (if h : m.tag.toNat < 8 then (s.port e.port).tagsInUse.set m.tag.toNat false h else (s.port e.port).tagsInUse) =
      (s.port e.port).tagsInUse.set t.val false t.isLt := by
    rw [dif_pos (htag ▸ t.isLt)]
    simp only [htag]
  have hflags : ∃ flags, SameCore
      (s.setPort e.port { s.port e.port with tagsInUse := (s.port e.port).tagsInUse.set t.val false t.isLt, flags := flags })
      (if m.result = 0 ∧ m.data.length ≠ e.wantedCount then
        (s.setPort e.port { s.port e.port with tagsInUse := (s.port e.port).tagsInUse.set t.val false t.isLt }).protocolError e.port
        else s.setPort e.port { s.port e.port with tagsInUse := (s.port e.port).tagsInUse.set t.val false t.isLt }) := by
    split
    · refine ⟨(s.port e.port).flags ||| PortFlag.protocol.mark, ?_⟩
      have h := sameCore_raisePort (s.setPort e.port
        { s.port e.port with tagsInUse := (s.port e.port).tagsInUse.set t.val false t.isLt }) e.port .protocol
      rwa [State.port_setPort_self, State.setPort_setPort] at h
    · exact ⟨(s.port e.port).flags, .refl _⟩
  obtain ⟨flags, hcore⟩ := hflags
  have hd := pieceEnded_completePiece e (e.pieces.findIdx fun x => x.holds m.tag.toNat) m
  have hpiece := getElem?_findIdx_holds hmem
  rw [htag] at hpiece
  simp only [State.matchedComplete, State.modifyPort_eq_setPort, hset]
  split
  · exact moves_finishEntry he hd.port hd.slot (tagsStay_set hmem) hcore
  · exact (Move.complete he hpiece hd).moves.core (hcore.setEntry k _)

theorem moves_takeComplete (s : State) (p : Port) (m : CompleteMsg) : Moves .whole s (s.takeComplete p m) := by
  unfold State.takeComplete
  split
  · exact moves_protocolError ..
  · split
    · exact moves_raisePort ..
    next k hk =>
      split
      next e he =>
        obtain ⟨rfl, t, htag, hmem⟩ := State.entryOfTag_some hk he
        exact moves_matchedComplete he htag hmem
      next => exact moves_raisePort ..

theorem moves_takeLateComplete (s : State) (p : Port) (m : CompleteMsg) : Moves o s (s.takeLateComplete p m) := by
  have hmark : Moves o s (s.setPort p { s.port p with endedTags := (s.port p).endedTags.setIfInBounds m.tag.toNat false }) :=
    moves_counters rfl
  exact hmark.trans (moves_raisePort ..)

theorem stages_completionTimerExpiry {k : EntryNo} {e : Entry} (he : s.entry k = some e) (hrun : (s.port e.port).state = .run) :
    Stages s (((s.endEntry k e .timeout).raisePort e.port .timeout).enterRealign e.port) := by
  have hmoves (o : Scope) : Moves o s ((s.endEntry k e .timeout).raisePort e.port .timeout) :=
    (moves_endEntry he .timeout).trans (moves_raisePort ..)
  refine (hmoves .whole).stages.trans (Stage.realign ?_).stages
  rw [(hmoves (.moving 0)).linked e.port]
  exact linked_of_state hrun rfl

theorem moves_hostResetEntries (s : State) : Moves .whole s s.hostResetEntries := by
  refine (moves_foldl (fun _ => True) (fun u k _ => ⟨?_, trivial⟩) allEntries trivial).1
  split
  next e he =>
    unfold State.hostResetEntry
    split
    · exact .refl
    · split
      · refine moves_freeEntry (flags := (u.port e.port).flags) he rfl rfl (.refl _ e) ?_
        rw [State.setPort_port]
        exact .refl u
      · exact (Move.disown he).moves
  next => exact .refl

/-! ### Tests and searches (R1, R3, R6, R14, R18) -/

theorem State.freeSlot_some {n : SlotNo} (h : s.freeSlot = some n) : n ≠ 0 ∧ s.claim n = none := by
  simpa using List.find?_some h

theorem State.slotOfHandle_some {p : Port} {h : Handle} {n : SlotNo} {c : Claim} (hn : s.slotOfHandle p h = some n)
    (hc : s.claim n = some c) : c.carries p h = true := by
  simpa [hc] using List.find?_some hn

theorem State.slotOfHandle_none {p : Port} {h : Handle} : s.slotOfHandle p h = none ↔ HandleUnused s p h := by
  simp only [State.slotOfHandle, List.find?_eq_none, HandleUnused]
  refine ⟨fun hnone n c hc => ?_, fun hunused n _ => ?_⟩
  · simpa [hc] using hnone n (mem_allSlots n)
  · cases hc : s.claim n with
    | none => simp
    | some c => simp [hunused n c hc]

theorem Claim.isBoardOf_of_carries {c : Claim} {p : Port} {h : Handle} (hc : c.carries p h = true) : c.isBoardOf p = true := by
  unfold Claim.carries at hc
  unfold Claim.isBoardOf
  cases howner : c.owner <;> simp_all

theorem Claim.owner_ne_fixed_of_board {c : Claim} {p : Port} (h : c.isBoardOf p = true) : c.owner ≠ .fixed := by
  intro hfixed
  simp [Claim.isBoardOf, hfixed] at h

theorem Claim.port_of_isBoardOf {c : Claim} {p q : Port} (h : c.isBoardOf p = true) (h' : c.isBoardOf q = true) : p = q := by
  unfold Claim.isBoardOf at h h'
  cases howner : c.owner <;> simp_all

theorem firstFit_some {fits : Nat → Bool} {granule count candidate b : Nat} (h : firstFit fits granule count candidate = some b) :
    fits b = true := by
  induction count generalizing candidate with
  | zero => simp [firstFit] at h
  | succ count ih =>
    rw [firstFit] at h
    split at h
    next hfits => rwa [← Option.some.inj h]
    next => exact ih h

theorem State.overlaps_of_room {sp : Space} {base : Option Nat} {size b : Nat} {leaveOut : Option SlotNo}
    (h : s.room sp base size leaveOut = .ok b) : s.overlaps sp b size leaveOut = false := by
  unfold State.room at h
  split at h
  · split at h
    · simp at h
    next hfree =>
      obtain rfl := Except.ok.inj h
      simpa using hfree
  · split at h
    next x hplace =>
      obtain rfl := Except.ok.inj h
      simpa using firstFit_some hplace
    next => simp at h

theorem mem_widths_of_shapeGood {sp : Space} {base : Option Nat} {size w : Nat} (h : shapeGood sp base size (some w) = true) :
    w ∈ Space.widths sp := by
  simp only [shapeGood, Bool.and_eq_true] at h
  simpa using h.2

/-! ### Claim messages taken (R28 to R33) -/

theorem moves_admitBoard {n : SlotNo} {p : Port} {h : Handle} {a : Attributes} {sp : Space} {b z : Nat} (hslot : s.freeSlot = some n)
    (hrun : (s.port p).state = .run) (hhandle : s.slotOfHandle p h = none) (hquota : (s.port p).claimCount ≠ (s.port p).quota)
    (hwidth : a.width ∈ Space.widths sp) (hroom : s.overlaps sp b z none = false) :
    Moves .whole s (s.admitBoard n p h ((s.port p).identity.getD 0) a sp b z) := by
  obtain ⟨hn, hfree⟩ := State.freeSlot_some hslot
  have hmove := Move.admitBoard hn hfree hrun (State.slotOfHandle_none.mp hhandle) hquota hwidth hroom
  exact (hmove.moves.trans (moves_owe ..)).trans (moves_raisePort ..)

theorem moves_judgeClaim {p : Port} (hrun : (s.port p).state = .run) (m : ClaimFields) : Moves .whole s (s.judgeClaim p m) := by
  unfold State.judgeClaim
  split
  · exact moves_refuse ..
  · generalize (if m.any then none else some m.base.toNat) = base
    dsimp only
    split_ifs with hshape hpool hhandle hquota
    case neg =>
      split
      · exact moves_refuse ..
      next n hslot =>
        split
        · exact moves_refuse ..
        next b hb =>
          rw [Bool.not_eq_true', Bool.not_eq_false] at hshape
          exact moves_admitBoard hslot hrun (by simpa using hhandle) hquota (mem_widths_of_shapeGood hshape) (State.overlaps_of_room hb)
    all_goals exact moves_refuse ..

/-- The claim of a board of a port in RUN is on a linked port. -/
theorem linked_of_board {p : Port} {c : Claim} (hrun : (s.port p).state = .run) (hboard : c.isBoardOf p = true) :
    ∀ q, c.isBoardOf q = true → (s.port q).state.linked = true := by
  intro q hq
  rw [← Claim.port_of_isBoardOf hboard hq]
  exact linked_of_state hrun rfl

theorem stages_judgeReshapeOf {p : Port} {m : ReshapeFields} {n : SlotNo} {c : Claim} (hrun : (s.port p).state = .run)
    (hc : s.claim n = some c) (hcarries : c.carries p m.handle = true) : Stages s (s.judgeReshapeOf p m n c) := by
  have hboard := Claim.isBoardOf_of_carries hcarries
  unfold State.judgeReshapeOf
  generalize (if m.any then none else some m.base.toNat) = base
  dsimp only
  split_ifs
  case neg =>
    split
    · exact (moves_refuse ..).stages
    next b hb =>
      exact (Stage.reshape (Claim.owner_ne_fixed_of_board hboard) hc (State.overlaps_of_room hb) (linked_of_board hrun hboard)).stages
  all_goals exact (moves_refuse ..).stages

theorem stages_judgeReshape {p : Port} (hrun : (s.port p).state = .run) (m : ReshapeFields) : Stages s (s.judgeReshape p m) := by
  unfold State.judgeReshape
  split
  · exact (moves_refuse ..).stages
  next n hn =>
    split
    · exact (moves_refuse ..).stages
    next c hc => exact stages_judgeReshapeOf hrun hc (State.slotOfHandle_some hn hc)

theorem stages_judgeRelease {p : Port} (hrun : (s.port p).state = .run) (h : Handle) : Stages s (s.judgeRelease p h) := by
  unfold State.judgeRelease
  split
  · exact (moves_refuse ..).stages
  next n hn =>
    split
    · exact (moves_refuse ..).stages
    next c hc =>
      have hboard := Claim.isBoardOf_of_carries (State.slotOfHandle_some hn hc)
      split
      · exact (moves_refuse ..).stages
      · exact (Stage.drain (Claim.owner_ne_fixed_of_board hboard) hc fun q hq _ => linked_of_board hrun hboard q hq).stages

theorem PortRecord.run_of_takeable {x : PortRecord} {m : ClaimMessage} (h : x.takeable = some m) : x.state = .run :=
  ((x.takeable_eq_some_iff m).mp h).1

theorem State.dropHead_run {p : Port} (hrun : (s.port p).state = .run) : ((s.dropHead p).port p).state = .run := by
  rw [State.dropHead, State.port_modifyPort_self]
  exact hrun

/-! ### Host commands on claims (R158 to R160) -/

theorem HostClaimArgs.owner_cases {a : HostClaimArgs} {w : Owner} (h : a.owner = some w) :
    w = .fence ∨ a.kindCode = 1 ∧ ∃ p b, w = .route p b ∧ b.width = a.width := by
  unfold HostClaimArgs.owner at h
  split at h
  next hkind =>
    split at h
    · obtain rfl := Option.some.inj h
      exact .inr ⟨hkind, _, _, rfl, rfl⟩
    · simp at h
  · exact .inl (Option.some.inj h).symm
  · simp at h

theorem moves_commandHostClaim (s : State) : Moves .whole s s.commandHostClaim := by
  unfold State.commandHostClaim
  dsimp only
  split
  · exact moves_finishCommand ..
  next w howner =>
    split
    · exact moves_refuseCommand ..
    next sp hsp =>
      split_ifs with hshape hport
      case neg =>
        split
        · exact moves_refuseCommand ..
        next n hslot =>
          split
          · exact moves_refuseCommand ..
          next b hb =>
            obtain ⟨hn, hfree⟩ := State.freeSlot_some hslot
            refine (Move.admitHost hn hfree ?_ (State.overlaps_of_room hb)).moves.trans (moves_finishCommand ..)
            rcases HostClaimArgs.owner_cases howner with rfl | ⟨hkind, p, a, rfl, hwidth⟩
            · exact .inl rfl
            · refine .inr ⟨p, a, rfl, ?_⟩
              rw [HostClaimArgs.recordedWidth, if_pos hkind, Bool.not_eq_true', Bool.not_eq_false] at hshape
              rw [hwidth]
              exact mem_widths_of_shapeGood hshape
      all_goals exact moves_refuseCommand ..

theorem stages_commandHostRetire (s : State) : Stages s s.commandHostRetire := by
  have hdrain (c : Claim) (hc : s.claim (slotOf s.latched.arg0) = some c) (hown : c.owner ≠ .fixed)
      (hhost : ∀ p, c.isBoardOf p = false) : Stages s (s.startDrain (slotOf s.latched.arg0) c .hostRetire) :=
    (Stage.drain hown hc fun p hp _ => absurd hp (by simp [hhost p])).stages
  unfold State.commandHostRetire
  dsimp only
  split
  · exact (moves_refuseCommand ..).stages
  · split
    · exact (moves_refuseCommand ..).stages
    next c hc =>
      split
      · exact (moves_refuseCommand ..).stages
      · exact (moves_refuseCommand ..).stages
      next howner => exact hdrain c hc (by simp [howner]) fun p => by simp [Claim.isBoardOf, howner]
      next howner => exact hdrain c hc (by simp [howner]) fun p => by simp [Claim.isBoardOf, howner]

theorem moves_revokeOrphan {n : SlotNo} {p : Port} {c : Claim} (hc : s.claim n = some c) (hboard : c.isBoardOf p = true)
    (hphase : c.phase = .orphaned) : Moves .whole s (s.revokeOrphan n p) := by
  have hretire : Moves .whole s (s.retireNow n p) := moves_retireNow hc hboard (.inl ⟨rfl, hphase⟩)
  unfold State.revokeOrphan
  dsimp only
  refine Moves.trans ?_ (moves_finishCommand ..)
  split
  next hnone => exact hretire.trans (Move.holdStop (not_orphan_of_orphans (List.isEmpty_iff.mp hnone))).moves
  next => exact hretire

theorem stages_commandRevoke (s : State) : Stages s s.commandRevoke := by
  unfold State.commandRevoke
  dsimp only
  split
  · exact (moves_refuseCommand ..).stages
  · split
    · exact (moves_refuseCommand ..).stages
    next c hc =>
      split
      case h_4 p h y a howner =>
        have hboard : c.isBoardOf p = true := by simp [Claim.isBoardOf, howner]
        split
        · exact (moves_finishCommand ..).stages
        next hphase => exact (moves_revokeOrphan hc hboard hphase).stages
        next hphase => exact (Stage.drain (by simp [howner]) hc fun q _ h => absurd h (by simp [hphase])).stages
        next hphase => exact (Stage.drain (by simp [howner]) hc fun q _ h => absurd h (by simp [hphase])).stages
      all_goals exact (moves_refuseCommand ..).stages

theorem moves_commandFind (s : State) : Moves o s s.commandFind := by
  unfold State.commandFind
  split
  · exact moves_finishCommand ..
  · split
    · exact moves_finishCommand ..
    · split <;> exact moves_finishCommand ..

/-! ### Host commands on ports (R112 to R114, R124, R132) -/

theorem moves_commandPortEnable (s : State) : Moves o s s.commandPortEnable := by
  unfold State.commandPortEnable
  dsimp only
  split
  case h_1 h | h_2 h => exact (moves_unlinked (by rw [h]; rfl) rfl rfl).trans (moves_finishCommand ..)
  all_goals exact moves_refuseCommand ..

theorem stages_closePort (s : State) (p : Port) (st : PortState) (signalling : Timer) (hst : st.linked = false) :
    Stages s (s.closePort p st signalling) :=
  (Stage.close hst).stages

theorem stages_commandPortDisable (s : State) : Stages s s.commandPortDisable := by
  unfold State.commandPortDisable
  dsimp only
  split
  · exact (moves_finishCommand ..).stages
  all_goals exact (stages_closePort s _ .off none rfl).trans (moves_finishCommand ..).stages

theorem stages_commandPortReset (s : State) : Stages s s.commandPortReset := by
  unfold State.commandPortReset
  dsimp only
  split
  · exact (moves_refuseCommand ..).stages
  all_goals exact stages_closePort s _ .resetting _ rfl

theorem stages_commandPortRetrain (s : State) : Stages s s.commandPortRetrain := by
  unfold State.commandPortRetrain
  dsimp only
  split
  next h => exact (Stage.realign (linked_of_state h rfl)).stages
  all_goals exact (moves_refuseCommand ..).stages

theorem moves_commandPortSleep (s : State) : Moves o s s.commandPortSleep := by
  unfold State.commandPortSleep
  dsimp only
  split
  next hrun =>
    split
    next h => exact (moves_startHandshake hrun (noEntryOf_of_hasEntry h.2)).trans (moves_transmit ..)
    next => exact moves_refuseCommand ..
  all_goals exact moves_refuseCommand ..

theorem moves_commandPortWake (s : State) : Moves o s s.commandPortWake := by
  unfold State.commandPortWake
  dsimp only
  split
  · exact moves_finishCommand ..
  · exact moves_wakeCause ..
  · exact moves_wakeCause ..
  all_goals exact moves_refuseCommand ..

/-! ### Settings (R165 to R168) -/

theorem moves_commandSetQuota (hrange : badArgument .setQuota s.latched = false) : Moves .whole s s.commandSetQuota := by
  simp only [badArgument, Bool.or_eq_false_iff, decide_eq_false_iff_not, not_lt] at hrange
  simp only [State.commandSetQuota]
  split
  · exact moves_refuseCommand ..
  next hcount => exact (Move.setQuota (Nat.le_of_not_lt hcount) hrange.2).moves.trans (moves_finishCommand ..)

theorem moves_commandSetHold (hrange : badArgument .setHold s.latched = false) : Moves .whole s s.commandSetHold := by
  simp only [badArgument, Bool.or_eq_false_iff, decide_eq_false_iff_not, not_lt] at hrange
  exact (Move.setHold hrange.2).moves.trans (moves_finishCommand ..)

theorem moves_commandSetPool (hrange : badArgument .setPool s.latched = false) : Moves .whole s s.commandSetPool := by
  unfold State.commandSetPool
  split
  · exact moves_finishCommand ..
  next sp hsp =>
    simp only [badArgument, hsp, Bool.not_eq_false'] at hrange
    exact (Move.setPool hrange).moves.trans (moves_finishCommand ..)

theorem moves_commandSetTiming (hrange : badArgument .setTiming s.latched = false) : Moves .whole s s.commandSetTiming := by
  simp only [badArgument, Bool.not_eq_false'] at hrange
  unfold State.commandSetTiming
  dsimp only
  split
  next hone =>
    simp only [timingRange, hone, Bool.and_eq_true, decide_eq_true_eq] at hrange
    exact (Move.setTiming (.inl hrange) (.inr rfl)).moves.trans (moves_finishCommand ..)
  next htwo =>
    simp only [timingRange, htwo, decide_eq_true_eq] at hrange
    exact (Move.setIdle hrange).moves.trans (moves_finishCommand ..)
  next hthree =>
    simp only [timingRange, hthree, Bool.and_eq_true, decide_eq_true_eq] at hrange
    exact (Move.setTiming (.inr rfl) (.inl hrange)).moves.trans (moves_finishCommand ..)
  next => exact moves_finishCommand ..

theorem stages_perform {c : HostCommand} (hrange : badArgument c s.latched = false) : Stages s (s.perform c) := by
  cases c with
  | hostClaim => exact (moves_commandHostClaim s).stages
  | hostRetire => exact stages_commandHostRetire s
  | revoke => exact stages_commandRevoke s
  | readClaim => exact (moves_finishCommand ..).stages
  | find => exact (moves_commandFind s).stages
  | portEnable => exact (moves_commandPortEnable s).stages
  | portDisable => exact stages_commandPortDisable s
  | portReset => exact stages_commandPortReset s
  | portRetrain => exact stages_commandPortRetrain s
  | portSleep => exact (moves_commandPortSleep s).stages
  | portWake => exact (moves_commandPortWake s).stages
  | setQuota => exact (moves_commandSetQuota hrange).stages
  | setHold => exact (moves_commandSetHold hrange).stages
  | setPool => exact (moves_commandSetPool hrange).stages
  | setTiming => exact (moves_commandSetTiming hrange).stages

theorem stages_startCommand (s : State) : Stages s s.startCommand := by
  unfold State.startCommand
  split
  · exact (moves_finishCommand ..).stages
  · split
    · exact (moves_finishCommand ..).stages
    next hrange => exact stages_perform (by simpa using hrange)

/-! ### Window writes (R61, R153, R177) -/

theorem stages_issue (s : State) : Stages s s.issue := by
  unfold State.issue
  split
  · exact (sameCore_raiseGlobal ..).moves.stages
  all_goals exact (sameCore_latch s).moves.stages.trans (stages_startCommand _)

theorem moves_acknowledge (s : State) (p : Port) : Moves o s (s.acknowledge p) := by
  unfold State.acknowledge
  split
  · exact .refl
  next code hnotice =>
    have hkept (owed : Bool) : RecordKept s.dozeIdleTime (s.port p) { s.port p with notice := none, noticeAckOwed := owed } :=
      ⟨rfl, rfl, rfl, rfl, rfl, rfl, rfl, rfl, rfl, id,
        fun h hunlinked => absurd (h hunlinked).2.2.1 (by simp [hnotice]), id, id⟩
    split
    · exact moves_record (hkept (s.port p).noticeAckOwed) rfl rfl
    · exact (moves_record (hkept true) rfl rfl).trans (moves_owe ..)

theorem moves_writeAcknowledge (s : State) (m v : Word) : Moves o s (s.writeAcknowledge m v) := by
  unfold State.writeAcknowledge
  split_ifs
  · exact .refl
  · exact moves_acknowledge ..
  · exact .refl

theorem moves_clearPort (s : State) (p : Port) (ones : Word) : Moves o s (s.clearPort p ones) :=
  (moves_record (recordKept_flags _ _ ((s.port p).flags &&& ~~~(ones.setWidth 12))) rfl rfl).core (sameCore_driveAttn _)

theorem sameCore_putCommand (s : State) (r : CommandRecord) : SameCore s { s with command := r } :=
  ⟨rfl, rfl, rfl, rfl, rfl, rfl, rfl, rfl, rfl⟩

theorem stages_writeRegister (s : State) (r : Register) (m v : Word) : Stages s (s.writeRegister r m v) := by
  cases r with
  | commandWord i => exact (sameCore_putCommand s _).moves.stages
  | issue => exact stages_issue s
  | globalFlags => exact (sameCore_clearGlobal ..).moves.stages
  | mask => exact (sameCore_writeMask ..).moves.stages
  | portFlags p => exact (moves_clearPort ..).stages
  | noticeAcknowledge => exact (moves_writeAcknowledge ..).stages
  | partCode | revision | slotState | resultWord | noticeResponder | portStatus | completionTimeout | dozeIdleTime | realignLimit
  | memFirst | memLast | ioFirst | ioLast | unassigned => exact .refl

theorem stages_windowStore (s : State) (offset : Nat) (data : List Byte) : Stages s (s.windowStore offset data) := by
  unfold State.windowStore
  split
  · exact stages_writeRegister ..
  · exact (stages_writeRegister ..).trans (stages_writeRegister ..)

/-! ### Requests (R46 to R58) -/

theorem stages_serveWindow (s : State) (r : Request) (k : AccessKind) : Stages s (s.serveWindow r k) := by
  cases k with
  | read => exact (moves_handOver ..).stages
  | write => exact (stages_windowStore ..).trans (moves_handOver ..).stages

theorem phaseVerdict_queue {n m : SlotNo} {p q : Port} {a b : Attributes} {ph : Phase} {st : PortState}
    (h : phaseVerdict n p a ph st = .queue m q b) : ph = .live ∧ n = m ∧ p = q ∧ a = b := by
  unfold phaseVerdict at h
  split at h
  case h_4 =>
    refine ⟨rfl, ?_⟩
    unfold liveVerdict at h
    split at h
    case h_5 => split at h <;> simp_all
    all_goals simp_all
  all_goals simp at h

/-- An access is queued for a LIVE claim that routes (R51). -/
theorem State.route_queue {sp : Space} {address : Nat} {n : SlotNo} {p : Port} {a : Attributes}
    (h : s.route sp address = .queue n p a) :
    ∃ c, s.claim n = some c ∧ c.phase = .live ∧ (c.owner = .route p a ∨ ∃ k y, c.owner = .board p k y a) := by
  unfold State.route at h
  split at h
  · simp at h
  · split at h
    · simp at h
    · split at h
      · simp at h
      next c hc =>
        unfold State.claimVerdict at h
        split at h
        · simp at h
        · simp at h
        next howner =>
          obtain ⟨hlive, rfl, rfl, rfl⟩ := phaseVerdict_queue h
          exact ⟨c, hc, hlive, .inl howner⟩
        next k y _ howner =>
          obtain ⟨hlive, rfl, rfl, rfl⟩ := phaseVerdict_queue h
          exact ⟨c, hc, hlive, .inr ⟨k, y, howner⟩⟩

theorem moves_createEntry {k : EntryNo} {n : SlotNo} {c : Claim} {p : Port} {a : Attributes} (hk : s.freePlace = some k)
    (hc : s.claim n = some c) (hlive : c.phase = .live) (howner : c.owner = .route p a ∨ ∃ h y, c.owner = .board p h y a)
    (r : Request) (kind : AccessKind) (sp : Space) (tag : HostTag) :
    Moves .whole s (s.createEntry k (newEntry r kind sp n p a) tag) := by
  have hfree : s.entry k = none := by simpa using List.find?_some hk
  have hcreate := (Move.create hfree hc hlive howner r kind sp rfl).moves
  have hclaim : (s.setEntry k (some (newEntry r kind sp n p a))).claim n = some c := hc
  have hlist : (s.setEntry k (some (newEntry r kind sp n p a))).increment n =
      (s.setEntry k (some (newEntry r kind sp n p a))).setClaim n (some { c with inFlight := c.inFlight + 1 }) := by
    simp only [State.increment, hclaim]
  have hwoken : Moves .whole s (((((s.setEntry k (some (newEntry r kind sp n p a))).increment n).modifyPort p fun x =>
      { x with issueList := x.issueList ++ [k] }).restartIdle p).wakeCause p) := by
    rw [hlist]
    exact (hcreate.trans (moves_restartIdle ..)).trans (moves_wakeCause ..)
  simp only [State.createEntry]
  split
  · exact hwoken.trans (moves_handOver ..)
  · exact hwoken

theorem stages_takeRequest (s : State) (raw : HostRequest) : Stages s (s.takeRequest raw) := by
  simp only [State.takeRequest]
  split_ifs
  case neg =>
    split
    · split
      · exact (moves_handOver ..).stages
      · exact stages_serveWindow ..
      next n p a hroute =>
        split
        · exact (moves_handOver ..).stages
        next k hk =>
          obtain ⟨c, hc, hlive, howner⟩ := State.route_queue hroute
          exact (moves_createEntry hk hc hlive howner ..).stages
    · exact (moves_handOver ..).stages
  all_goals exact (moves_handOver ..).stages

/-- A write of the queues of the host link, which no law of the table reads. -/
theorem stages_queues (s : State) (waiting : List HostRequest) (completions hostSent : List Completion) (link : HostLinkState)
    (pending : List Instr) :
    Stages s { s with
      waiting := waiting, completions := completions, hostSent := hostSent, hostLink := link, pending := pending } := by
  refine SameCore.moves (o := .whole) ?_ |>.stages
  exact ⟨rfl, rfl, rfl, rfl, rfl, rfl, rfl, rfl, rfl⟩

theorem stages_routeNext (s : State) : Stages s s.routeNext := by
  unfold State.routeNext
  split
  · exact .refl
  · split
    · split
      · exact .refl
      next rest _ => exact (stages_queues s rest s.completions s.hostSent s.hostLink s.pending).trans (stages_takeRequest ..)
    · exact .refl

theorem stages_hostArrival (s : State) (r : HostRequest) : Stages s (s.hostArrival r) := by
  unfold State.hostArrival
  split
  · exact .refl
  · exact (stages_queues s (s.waiting ++ [r]) s.completions s.hostSent s.hostLink s.pending).trans (stages_routeNext _)

theorem stages_issueRow (s : State) (c : Option HostCommand) (tag : HostTag) (w : IssueWrite) : Stages s (s.issueRow c tag w) := by
  unfold State.issueRow
  split
  · exact stages_hostArrival ..
  · exact .refl

/-! ### Commands and steps -/

/-- The outcome is a next state, at the end of a chain of stages. -/
def Staged (s : State) (o : Host.Outcome State Fault Refusal) : Prop :=
  ∀ t, o = .next t → Stages s t

theorem Staged.next {t : State} (h : Stages s t) : Staged s (.next t) := by
  intro u hu
  rw [← Host.Outcome.next.inj hu]
  exact h

/-- A happening that cannot be taken changes nothing (log 2). -/
theorem Staged.idle (s : State) : Staged s (.next s) :=
  .next .refl

/-- A command that is taken under a condition. -/
theorem Staged.ite {c : Prop} [Decidable c] {o o' : Host.Outcome State Fault Refusal} (h : c → Staged s o) (h' : ¬ c → Staged s o') :
    Staged s (if c then o else o') := by
  split
  · exact h ‹_›
  · exact h' ‹_›

theorem staged_receive {p : Port} {seq : Byte} {act : State → State} (hact : ∀ u, Stages u (act u)) :
    Staged s (.next (s.receive p seq act)) :=
  .next (stages_receive s p seq hact)

theorem staged_powerOnReset (winsel : BitVec 4) (s : State) : Staged s (execPowerOnReset winsel s) := by
  rw [execPowerOnReset_eq]
  refine .next (Stage.fresh ⟨rfl, rfl, fun p => ⟨(s.port p).present, ?_⟩, rfl, rfl, rfl, rfl, rfl⟩).stages
  exact State.port_poweredOn s winsel p

theorem staged_hostLinkReset (s : State) : Staged s (execHostLinkReset s) := by
  unfold execHostLinkReset
  split
  · exact .idle s
  · refine .next ((stages_queues s [] s.completions s.hostSent .reset s.pending).trans ?_)
    exact ((moves_hostResetEntries _).core (sameCore_raiseGlobal ..)).stages

theorem staged_completionSend (s : State) : Staged s (execCompletionSend s) := by
  unfold execCompletionSend
  split
  next c rest _ _ => exact .next (stages_queues s s.waiting rest (s.hostSent ++ [c]) s.hostLink s.pending)
  all_goals exact .idle s

theorem staged_presenceAppears (p : Port) (s : State) : Staged s (execPresenceAppears p s) := by
  have hpresent : Moves .whole s (s.setPort p { s.port p with present := true }) := moves_counters rfl
  unfold execPresenceAppears
  refine .ite (fun _ => .idle s) fun _ => .ite (fun hlisten => .next ?_) fun _ => .next hpresent.stages
  exact (hpresent.trans (moves_enterGreet (by rw [State.port_setPort_self]; exact hlisten))).stages

theorem staged_presenceLost (p : Port) (s : State) : Staged s (execPresenceLost p s) := by
  have habsent : Moves .whole s (s.setPort p { s.port p with present := false }) := moves_counters rfl
  exact .ite (fun _ => .next (habsent.stages.trans (stages_losePartner ..))) fun _ => .idle s

theorem stages_takeHello (s : State) (p : Port) (seq : Byte) (m : HelloMsg) : Stages s (s.takeHello p seq m) := by
  unfold State.takeHello
  split
  next hgreet =>
    split
    next hgood => exact stages_acceptHello hgreet hgood seq
    next => exact stages_greetFailure hgreet
  case h_2 | h_3 | h_4 | h_5 | h_6 => exact (moves_protocolError ..).stages
  all_goals exact .refl

theorem staged_resetSignallingTimerExpiry (p : Port) (s : State) : Staged s (execResetSignallingTimerExpiry p s) := by
  refine .ite (fun h => .next ?_) fun _ => .idle s
  have hlisten : Moves .whole s (s.setPort p
      { s.port p with resetTimer := none, state := .listen, endedTags := Vector.replicate 8 false }) :=
    moves_unlinked (by rw [h.1]; rfl) rfl rfl
  exact (hlisten.trans (moves_reportEnd ..)).stages

theorem staged_takeClaim (p : Port) (s : State) : Staged s (execTakeClaim p s) := by
  unfold execTakeClaim
  split
  next m hm =>
    have hrun := PortRecord.run_of_takeable hm
    exact .next ((moves_dropHead hrun).trans (moves_judgeClaim (State.dropHead_run hrun) m)).stages
  all_goals exact .idle s

theorem staged_takeReshape (p : Port) (s : State) : Staged s (execTakeReshape p s) := by
  unfold execTakeReshape
  split
  next m hm =>
    have hrun := PortRecord.run_of_takeable hm
    exact .next ((moves_dropHead hrun).stages.trans (stages_judgeReshape (State.dropHead_run hrun) m))
  all_goals exact .idle s

theorem staged_takeRelease (p : Port) (s : State) : Staged s (execTakeRelease p s) := by
  unfold execTakeRelease
  split
  next h hm =>
    have hrun := PortRecord.run_of_takeable hm
    exact .next ((moves_dropHead hrun).stages.trans (stages_judgeRelease (State.dropHead_run hrun) h))
  all_goals exact .idle s

theorem staged_owedMessageSend (p : Port) (s : State) : Staged s (execOwedMessageSend p s) := by
  refine .ite (fun h => ?_) fun _ => .idle s
  split
  · exact .idle s
  next m rest _ =>
    have hsent : Moves .whole s (s.setPort p { s.port p with
        owed := rest, noticeAckOwed := (s.port p).noticeAckOwed && decide (m ≠ OwedMessage.noticeAck) }) :=
      moves_lists (linked_of_state h.1 rfl) rfl id
    exact .next (hsent.trans (moves_transmit ..)).stages

theorem staged_pieceIssue (p : Port) (s : State) : Staged s (execPieceIssue p s) := by
  refine .ite (fun h => ?_) fun _ => .idle s
  split
  next k l t hlist htag =>
    split
    next e he => exact .next (moves_issuePiece (by simp [hlist]) he h htag).stages
    next => exact .idle s
  all_goals exact .idle s

theorem staged_complete (p : Port) (seq : Byte) (m : CompleteMsg) (s : State) : Staged s (execComplete p seq m s) :=
  .ite (fun _ => .next (moves_takeLateComplete ..).stages) fun _ => staged_receive fun u => (moves_takeComplete u p m).stages

theorem staged_completionTimerExpiry (k : EntryNo) (s : State) : Staged s (execCompletionTimerExpiry k s) := by
  unfold execCompletionTimerExpiry
  split
  · exact .idle s
  next e he => exact .ite (fun h => .next (stages_completionTimerExpiry he h.2)) fun _ => .idle s

@[simp] theorem State.claim_raisePort (s : State) (p : Port) (f : PortFlag) (n : SlotNo) : (s.raisePort p f).claim n = s.claim n := rfl

theorem staged_holdTimerExpiry (p : Port) (s : State) : Staged s (execHoldTimerExpiry p s) := by
  refine .ite (fun _ => .next ?_) fun _ => .idle s
  have hfreed := not_orphan_of_freed s p
  rw [← State.retireWhere_eq_freed] at hfreed
  have hdropped : Moves .whole s ((s.retireWhere p fun c => c.isOrphanOf p).raisePort p .orphansDropped) :=
    (moves_retireOrphans s p).trans (moves_raisePort ..)
  have hnone : ∀ n c, ((s.retireWhere p fun c => c.isOrphanOf p).raisePort p .orphansDropped).claim n = some c →
      c.isOrphanOf p = false := by
    intro n c hc
    rw [State.claim_raisePort] at hc
    exact hfreed n c hc
  generalize (s.retireWhere p fun c => c.isOrphanOf p).raisePort p .orphansDropped = t at hdropped hnone
  exact (hdropped.trans (Move.holdStop hnone).moves).stages

theorem staged_dozeIdleTimerExpiry (p : Port) (s : State) : Staged s (execDozeIdleTimerExpiry p s) := by
  refine .ite (fun h => .ite (fun hempty => .next ?_) fun _ => .next (moves_restartIdle ..).stages) fun _ => .idle s
  exact ((moves_startHandshake h.1 (noEntryOf_of_portEmpty hempty.1)).trans (moves_transmit ..)).stages

theorem staged_exec (c : Instr) (s : State) : Staged s (exec c s) := by
  cases c with
  | powerOnReset winsel => exact staged_powerOnReset winsel s
  | hostLinkUp => exact .next (stages_queues s s.waiting s.completions s.hostSent .up s.pending)
  | hostLinkReset => exact staged_hostLinkReset s
  | completionSend => exact staged_completionSend s
  | hostRequest | windowWrite | flagClear | maskWrite | noticeAcknowledge => exact .next (stages_hostArrival s _)
  | badCommand | hostClaim | hostRetire | revoke | readClaim | find | portEnable | portDisable | portReset | portRetrain
  | portSleep | portWake | setQuota | setHold | setPool | setTiming => exact .next (stages_issueRow s _ _ _)
  | presenceAppears p => exact staged_presenceAppears p s
  | presenceLost p => exact staged_presenceLost p s
  | greetEntry p => exact .ite (fun h => .next (moves_enterGreet h.1).stages) fun _ => .idle s
  | hello p seq m => exact staged_receive fun u => stages_takeHello u p seq m
  | greetTimerExpiry p => exact .ite (fun h => .next (stages_greetFailure h.1)) fun _ => .idle s
  | badCheckMessage p => exact .next (stages_badCheck s p)
  | unknownMessage p => exact staged_receive fun u => (moves_protocolError u p).stages
  | alignAck p seq y => exact staged_receive fun u => stages_takeAlignAck u p seq y
  | attemptTimerExpiry p => exact .ite (fun _ => .next (stages_attemptFailure s p)) fun _ => .idle s
  | resetSignallingTimerExpiry p => exact staged_resetSignallingTimerExpiry p s
  | claim p | reshape p | release p => exact staged_receive fun u => (moves_queueClaimMessage u p _).stages
  | takeClaim p => exact staged_takeClaim p s
  | takeReshape p => exact staged_takeReshape p s
  | takeRelease p => exact staged_takeRelease p s
  | owedMessageSend p => exact staged_owedMessageSend p s
  | pieceIssue p => exact staged_pieceIssue p s
  | complete p seq m => exact staged_complete p seq m s
  | completionTimerExpiry k => exact staged_completionTimerExpiry k s
  | holdTimerExpiry p => exact staged_holdTimerExpiry p s
  | dozeIdleTimerExpiry p => exact staged_dozeIdleTimerExpiry p s
  | handshakeAnswerTimerExpiry p =>
    exact .ite (fun h => .next (Stage.realign (linked_of_state h.1 rfl)).stages) fun _ => .idle s
  | dozeAck p => exact staged_receive fun u => (moves_takeDozeAck u p).stages
  | dozeNak p => exact staged_receive fun u => (moves_takeDozeNak u p).stages
  | sleepReq p => exact staged_receive fun u => (moves_takeSleepReq u p).stages
  | sleepAck p => exact staged_receive fun u => (moves_takeSleepAck u p).stages
  | sleepNak p => exact staged_receive fun u => (moves_takeSleepNak u p).stages
  | wake p => exact staged_receive fun u => (moves_takeWake u p).stages
  | wakeAck p => exact staged_receive fun u => (moves_takeWakeAck u p).stages
  | wakeExitTimerExpiry p => exact .ite (fun h => .next (stages_wakeFailure h.1)) fun _ => .idle s
  | notice p _ code => exact staged_receive fun u => (moves_takeNotice u p code).stages

/-- Every step is a chain of stages. -/
theorem stages_step {t : State} (h : step s = .next t) : Stages s t := by
  unfold step at h
  split at h
  · rw [← Host.Outcome.next.inj h]
    exact stages_routeNext s
  next c rest _ =>
    have hqueue := stages_queues s s.waiting s.completions s.hostSent s.hostLink rest
    exact hqueue.trans (staged_exec c { s with pending := rest } t h)

/-- A law that every stage keeps is kept by every step. -/
theorem step_keeps {P : State → Prop} (hP : ∀ u v, Stage u v → P u → P v) {t : State} (h : step s = .next t) (hs : P s) : P t :=
  (stages_step h).keeps hP hs

end Sys2Proof.Machine
end

section
/-! PROOFS. The laws that only the claims keep: the window, the handles, the unit widths, and that no two claims overlap. -/

namespace Sys2Proof.Machine

open Sys2Proof

variable {s t : State} {o : Scope}

/-! ### The parts of a state after a settling claim and a freed entry -/

@[simp] theorem State.claim_afterSettle (s : State) (n m : SlotNo) (c : Claim) :
    (s.afterSettle n c).claim m = if n = m then c.settled else s.claim m := by
  unfold State.afterSettle
  split <;> simp [State.claim_setClaim]

@[simp] theorem State.entry_afterSettle (s : State) (n : SlotNo) (c : Claim) (k : EntryNo) : (s.afterSettle n c).entry k = s.entry k := by
  unfold State.afterSettle
  split <;> rfl

/-- A claim with one access fewer (R5): it settles with the last while in motion. -/
def Claim.lowered (c : Claim) : Option Claim :=
  if c.phase.inMotion = true ∧ c.inFlight - 1 = 0 then Claim.settled { c with inFlight := c.inFlight - 1 }
  else some { c with inFlight := c.inFlight - 1 }

@[simp] theorem State.claim_lowered (s : State) (n m : SlotNo) :
    (s.lowered n).claim m = if n = m then (s.claim n).bind Claim.lowered else s.claim m := by
  unfold State.lowered
  split
  next hc =>
    split
    next h => rw [← h, hc, Option.bind_none]
    next => rfl
  next c hc =>
    rw [hc, Option.bind_some, Claim.lowered]
    split
    · exact s.claim_afterSettle n m _
    · exact s.claim_setClaim n m _

@[simp] theorem State.entry_lowered (s : State) (n : SlotNo) (k : EntryNo) : (s.lowered n).entry k = s.entry k := by
  unfold State.lowered
  split
  · rfl
  · split
    · exact s.entry_afterSettle n _ k
    · rfl

@[simp] theorem State.winsel_afterSettle (s : State) (n : SlotNo) (c : Claim) : (s.afterSettle n c).winsel = s.winsel := by
  unfold State.afterSettle
  split <;> rfl

@[simp] theorem State.winsel_lowered (s : State) (n : SlotNo) : (s.lowered n).winsel = s.winsel := by
  unfold State.lowered
  split
  · rfl
  · split
    · exact s.winsel_afterSettle n _
    · rfl

@[simp] theorem State.claim_stopIdleTimers (s : State) (n : SlotNo) : s.stopIdleTimers.claim n = s.claim n := by
  simp only [State.claim]
  rw [State.stopIdleTimers_frame]

@[simp] theorem State.entry_stopIdleTimers (s : State) (k : EntryNo) : s.stopIdleTimers.entry k = s.entry k := by
  simp only [State.entry]
  rw [State.stopIdleTimers_frame]

@[simp] theorem State.winsel_stopIdleTimers (s : State) : s.stopIdleTimers.winsel = s.winsel := by
  rw [State.stopIdleTimers_frame]

/-! ### What a move does to the claims -/

/-- The claim `d` holds no more than `c`: the same owner and space, and no other extent. -/
structure Claim.Within (d c : Claim) : Prop where
  owner : d.owner = c.owner
  space : d.space = c.space
  extents : d.extents ⊆ c.extents

theorem Claim.Within.refl (c : Claim) : c.Within c :=
  ⟨rfl, rfl, fun _ => id⟩

/-- Every occupied claim table has the window's claim at its end. -/
def Claim.Windowed (c : Claim) : Prop :=
  c.owner = .fixed ∧ c.phase = .live ∧ c.inFlight = 0

/-- A claim that routes has a unit width of its space (R1). -/
def Claim.WidthOk (c : Claim) : Prop :=
  match c.owner with
  | .board _ _ _ a => a.width ∈ Space.widths c.space
  | .route _ a => a.width ∈ Space.widths c.space
  | .fixed | .fence => True

/-- A slot's content after a write that lets no claim grow. -/
structure SlotShrinks (before after : Option Claim) : Prop where
  within : ∀ d, after = some d → ∃ c, before = some c ∧ d.Within c
  window : ∀ c, before = some c → c.Windowed → after = some c

theorem SlotShrinks.refl (c : Option Claim) : SlotShrinks c c :=
  ⟨fun d hd => ⟨d, hd, .refl d⟩, fun _ hc _ => hc⟩

/-- The claims after a move. -/
inductive ClaimsStep (o : Scope) (s t : State) : Prop
  | shrink (h : ∀ n, SlotShrinks (s.claim n) (t.claim n))
  | fill {n w sp b z} (hwhole : o = .whole) (hclaim : ∀ m, t.claim m = (s.setClaim n (some (newClaim w sp b z))).claim m) (hn : n ≠ 0)
      (hfree : s.claim n = none) (hown : w ≠ .fixed) (hwidth : (newClaim w sp b z).WidthOk)
      (hhandle : ∀ p h, (newClaim w sp b z).carries p h = true → HandleUnused s p h)
      (hidentity : ∀ p h y a, w = .board p h y a → (s.port p).state = .run ∧ y = (s.port p).identity.getD 0) (hroom : s.overlaps sp b z none = false)
  | reshape {n c b z} (hclaim : ∀ m, t.claim m = (s.setClaim n (some { c with phase := .reshaping b z })).claim m)
      (hown : c.owner ≠ .fixed) (hc : s.claim n = some c) (hroom : s.overlaps c.space b z (some n) = false)

theorem Phase.inMotion_iff (ph : Phase) : ph.inMotion = true ↔ (∃ b z, ph = .reshaping b z) ∨ ∃ cause, ph = .draining cause := by
  cases ph <;> simp [Phase.inMotion]

/-- A claim keeps its extents while its count changes. -/
theorem Claim.within_counted (c : Claim) (k : Nat) : Claim.Within { c with inFlight := k } c :=
  ⟨rfl, rfl, fun _ => id⟩

theorem Claim.within_settled {c d : Claim} (h : c.settled = some d) : d.Within c := by
  obtain ⟨owner, space, base, size, phase, inFlight⟩ := c
  cases phase with
  | reshaping b z =>
    obtain rfl := Option.some.inj h
    exact ⟨rfl, rfl, by simp [Claim.extents]⟩
  | live | draining | orphaned => simp [Claim.settled] at h

theorem slotShrinks_lowered (c : Claim) : SlotShrinks (some c) c.lowered := by
  refine ⟨fun d hd => ⟨c, rfl, ?_⟩, fun c' hc' hw => ?_⟩
  · unfold Claim.lowered at hd
    split at hd
    · obtain ⟨howner, hspace, hextents⟩ := Claim.within_settled hd
      exact ⟨howner, hspace, hextents⟩
    · rw [← Option.some.inj hd]
      exact c.within_counted _
  · obtain rfl := Option.some.inj hc'
    obtain ⟨-, hlive, hrest⟩ := hw
    rw [Claim.lowered, if_neg (by simp [hlive, Phase.inMotion]), show c.inFlight - 1 = c.inFlight by omega]

theorem Claim.within_orphaned (c : Claim) (p : Port) : (c.orphaned p).Within c := by
  unfold Claim.orphaned
  split
  · split
    next hphase => exact ⟨rfl, rfl, by simp [Claim.extents, hphase]⟩
    next hphase => exact ⟨rfl, rfl, by simp [Claim.extents, hphase]⟩
    all_goals exact .refl c
  · exact .refl c

theorem Claim.within_revived (c : Claim) (p : Port) : (c.revived p).Within c := by
  unfold Claim.revived
  split
  next h =>
    obtain ⟨-, hphase⟩ := (c.isOrphanOf_iff p).mp h
    exact ⟨rfl, rfl, by simp [Claim.extents, hphase]⟩
  next => exact .refl c

/-- A write of one slot that lets its claim not grow. -/
theorem claimsStep_set {n : SlotNo} {d : Option Claim} (hclaim : ∀ m, t.claim m = if n = m then d else s.claim m)
    (h : SlotShrinks (s.claim n) d) : ClaimsStep o s t := by
  refine .shrink fun m => ?_
  rw [hclaim]
  split
  next hm => exact hm ▸ h
  next => exact .refl _

/-- A claim that is not the window's is retired. -/
theorem slotShrinks_none {c : Claim} (h : c.owner ≠ .fixed) : SlotShrinks (some c) none :=
  ⟨fun _ hd => by simp at hd, fun _ hc hw => absurd (Option.some.inj hc ▸ hw.1) h⟩

theorem slotShrinks_some {c d : Claim} (hwithin : d.Within c) (h : c.Windowed → d = c) : SlotShrinks (some c) (some d) :=
  ⟨fun d' hd => ⟨c, rfl, Option.some.inj hd ▸ hwithin⟩, fun c' hc hw => by
    obtain rfl := Option.some.inj hc
    rw [h hw]⟩

theorem claimsStep_same (h : ∀ m, t.claim m = s.claim m) : ClaimsStep o s t :=
  .shrink fun m => h m ▸ .refl _

theorem slotShrinks_map {f : Claim → Claim} (hwithin : ∀ c, (f c).Within c) (hfixed : ∀ c, c.Windowed → f c = c) (c : Option Claim) :
    SlotShrinks c (c.map f) := by
  cases c with
  | none => exact .refl _
  | some c => exact slotShrinks_some (hwithin c) (hfixed c)

theorem Claim.not_board_of_windowed {c : Claim} (h : c.Windowed) (p : Port) : c.isBoardOf p = false := by
  simp [Claim.isBoardOf, h.1]

theorem Move.claimsStep (h : Move o s t) : ClaimsStep o s t := by
  cases h with
  | frame h => exact claimsStep_same h.claim
  | record | halt | shut | holdStart | holdStop | setQuota | setHold | issue | complete | disown | freeTags | clearList | setTiming =>
    exact claimsStep_same fun _ => rfl
  | @setPool _ sp q => cases sp <;> exact claimsStep_same fun _ => rfl
  | setIdle =>
    refine claimsStep_same fun m => ?_
    split
    · exact State.claim_stopIdleTimers _ m
    · rfl
  | @orphan _ p =>
    refine .shrink fun n => ?_
    rw [State.claim_orphaned]
    refine slotShrinks_map (fun c => c.within_orphaned p) (fun c hc => ?_) _
    simp [Claim.orphaned, c.not_board_of_windowed hc]
  | @opening _ p y =>
    refine .shrink fun n => ?_
    rw [State.claim_setPort, State.claim_revived]
    refine slotShrinks_map (fun c => c.within_revived p) (fun c hc => ?_) _
    simp [Claim.revived, Claim.isOrphanOf, c.not_board_of_windowed hc]
  | admitHost hn hfree howner hroom =>
    refine .fill rfl (fun _ => rfl) hn hfree ?_ ?_ (fun p h => ?_) (fun p h y a => ?_) hroom
    · rcases howner with rfl | ⟨p, a, rfl, -⟩ <;> simp
    · rcases howner with rfl | ⟨p, a, rfl, hwidth⟩
      · trivial
      · exact hwidth
    · rcases howner with rfl | ⟨p, a, rfl, -⟩ <;> simp [newClaim, Claim.carries]
    · rcases howner with rfl | ⟨p, a, rfl, -⟩ <;> simp
  | admitBoard hn hfree hrun hhandle hquota hwidth hroom =>
    refine .fill rfl (fun _ => rfl) hn hfree (by simp) hwidth (fun q k hcarries => ?_) (fun q k y a' howner => ?_) hroom
    · simp only [newClaim, Claim.carries, Bool.and_eq_true, beq_iff_eq] at hcarries
      obtain ⟨rfl, rfl⟩ := hcarries
      exact hhandle
    · obtain ⟨rfl, rfl, rfl, rfl⟩ := Owner.board.inj howner
      exact ⟨hrun, rfl⟩
  | retire hc hboard =>
    exact claimsStep_set (fun m => s.claim_setClaim _ m none) (hc ▸ slotShrinks_none (Claim.owner_ne_fixed_of_board hboard))
  | reshape hown hc hroom => exact .reshape (fun _ => rfl) hown hc hroom
  | drain hown hc =>
    refine claimsStep_set (fun m => s.claim_setClaim _ m _) (hc ▸ slotShrinks_some ⟨rfl, rfl, ?_⟩ fun hw => absurd hw.1 hown)
    simp only [Claim.extents]
    split <;> simp
  | @settle _ _ n c hc hmotion =>
    refine claimsStep_set (fun m => s.claim_afterSettle n m c) (hc ▸ ⟨fun d hd => ⟨c, rfl, Claim.within_settled hd⟩, fun c' hc' hw => ?_⟩)
    obtain rfl := Option.some.inj hc'
    simp [hw.2.1, Phase.inMotion] at hmotion
  | @release _ _ k e tags flags =>
    refine claimsStep_set (fun m => State.claim_lowered _ e.slot m) ?_
    change SlotShrinks _ ((s.claim e.slot).bind Claim.lowered)
    cases s.claim e.slot with
    | none => exact .refl _
    | some c => exact slotShrinks_lowered c
  | @create _ k e n c p a hk hc hlive howner =>
    refine claimsStep_set (fun m => s.claim_setClaim n m _) (hc ▸ slotShrinks_some (c.within_counted _) fun hw => ?_)
    rcases howner with h | ⟨_, _, h⟩ <;> simp [hw.1] at h

/-! ### The window, the handles and the unit widths (R1, R3, R4) -/

theorem Move.winsel (h : Move o s t) : t.winsel = s.winsel := by
  cases h with
  | frame h => exact h.winsel
  | @setPool _ sp q => cases sp <;> rfl
  | setIdle =>
    split
    · exact State.winsel_stopIdleTimers _
    · rfl
  | settle => exact State.winsel_afterSettle ..
  | release => exact State.winsel_lowered ..
  | _ => rfl

theorem windowed_windowClaim (w : BitVec 4) : (windowClaim w).Windowed :=
  ⟨rfl, rfl, rfl⟩

theorem windowLaw_of_claimsStep (h : ClaimsStep o s t) (hwinsel : t.winsel = s.winsel) (hs : WindowLaw s) : WindowLaw t := by
  obtain ⟨hzero, hothers⟩ := hs
  rw [← hwinsel] at hzero
  cases h with
  | shrink h =>
    refine ⟨(h 0).window _ hzero (windowed_windowClaim _), fun n hn d hd => ?_⟩
    obtain ⟨c, hc, hwithin⟩ := (h n).within d hd
    rw [hwithin.owner]
    exact hothers n hn c hc
  | @fill n w sp b z hwhole hclaim hn hfree hown =>
    refine ⟨by rw [hclaim, State.claim_setClaim_ne _ _ (Ne.symm hn)]; exact hzero, fun m hm d hd => ?_⟩
    rw [hclaim, State.claim_setClaim] at hd
    split at hd
    · obtain rfl := Option.some.inj hd
      exact hown
    · exact hothers m hm d hd
  | @reshape n c b z hclaim hown hc =>
    have hn : n ≠ 0 := fun h0 => hown (by rw [h0, hzero] at hc; rw [← Option.some.inj hc]; rfl)
    refine ⟨by rw [hclaim, State.claim_setClaim_ne _ _ (Ne.symm hn)]; exact hzero, fun m hm d hd => ?_⟩
    rw [hclaim, State.claim_setClaim] at hd
    split at hd
    · obtain rfl := Option.some.inj hd
      exact hown
    · exact hothers m hm d hd

theorem Move.windowLaw (h : Move o s t) : WindowLaw s → WindowLaw t :=
  windowLaw_of_claimsStep h.claimsStep h.winsel

theorem Claim.carries_eq_of_owner {c d : Claim} (h : d.owner = c.owner) (p : Port) (k : Handle) : d.carries p k = c.carries p k := by
  simp only [Claim.carries, h]

theorem Claim.Within.widthOk {c d : Claim} (h : d.Within c) (hc : c.WidthOk) : d.WidthOk := by
  unfold Claim.WidthOk at hc ⊢
  rw [h.owner, h.space]
  exact hc

/-- A property of the owner and the space of each claim, which an admission grants to the claim it fills. -/
theorem Move.widthOk (h : Move o s t) (hs : ∀ n c, s.claim n = some c → c.WidthOk) : ∀ n c, t.claim n = some c → c.WidthOk := by
  intro m d hd
  cases h.claimsStep with
  | shrink h =>
    obtain ⟨c, hc, hwithin⟩ := (h m).within d hd
    exact hwithin.widthOk (hs m c hc)
  | fill hwhole hclaim hn hfree hown hwidth =>
    rw [hclaim, State.claim_setClaim] at hd
    split at hd
    · exact Option.some.inj hd ▸ hwidth
    · exact hs m d hd
  | @reshape n c b z hclaim hown hc =>
    rw [hclaim, State.claim_setClaim] at hd
    split at hd
    · exact Option.some.inj hd ▸ hs n c hc
    · exact hs m d hd

theorem Move.widthLaw (h : Move o s t) : WidthLaw s → WidthLaw t :=
  h.widthOk

theorem handleLaw_of_claimsStep (h : ClaimsStep o s t) (hs : HandleLaw s) : HandleLaw t := by
  intro i j hij c d hc hd p k hcarries
  cases h with
  | shrink h =>
    obtain ⟨c', hc', hwc⟩ := (h i).within c hc
    obtain ⟨d', hd', hwd⟩ := (h j).within d hd
    rw [Claim.carries_eq_of_owner hwd.owner]
    exact hs i j hij c' d' hc' hd' p k (by rwa [Claim.carries_eq_of_owner hwc.owner] at hcarries)
  | @fill n w sp b z hwhole hclaim hn hfree hown hwidth hhandle hidentity hroom =>
    rw [hclaim, State.claim_setClaim] at hc hd
    split at hc
    next hi =>
      rw [if_neg (fun hj => hij (hi.symm.trans hj))] at hd
      exact hhandle p k (Option.some.inj hc ▸ hcarries) j d hd
    next =>
      split at hd
      next =>
        obtain rfl := Option.some.inj hd
        by_contra hnew
        have hunused := hhandle p k (by simpa using hnew) i c hc
        simp [hcarries] at hunused
      next => exact hs i j hij c d hc hd p k hcarries
  | @reshape n e b z hclaim hown he =>
    have hold (m : SlotNo) (x : Claim) (hx : t.claim m = some x) : ∃ y, s.claim m = some y ∧ x.owner = y.owner := by
      rw [hclaim, State.claim_setClaim] at hx
      split at hx
      next hm => exact ⟨e, hm ▸ he, by rw [← Option.some.inj hx]⟩
      next => exact ⟨x, hx, rfl⟩
    obtain ⟨c', hc', hoc⟩ := hold i c hc
    obtain ⟨d', hd', hod⟩ := hold j d hd
    rw [Claim.carries_eq_of_owner hod]
    exact hs i j hij c' d' hc' hd' p k (by rwa [Claim.carries_eq_of_owner hoc] at hcarries)

theorem Move.handleLaw (h : Move o s t) : HandleLaw s → HandleLaw t :=
  handleLaw_of_claimsStep h.claimsStep

/-! ### Overlap (R14) -/

theorem extentsMeet_comm (x y : Nat × Nat) : extentsMeet x y = extentsMeet y x := by
  simp only [extentsMeet, Bool.and_comm]

/-- An extent that passes the overlap test meets no extent of a claim of its space that is not left out. -/
theorem State.not_meet_of_not_overlaps {sp : Space} {b z : Nat} {leaveOut : Option SlotNo} (h : s.overlaps sp b z leaveOut = false)
    {n : SlotNo} {c : Claim} (hc : s.claim n = some c) (hn : some n ≠ leaveOut) (hsp : c.space = sp) {x : Nat × Nat}
    (hx : x ∈ c.extents) : extentsMeet (b, z) x = false := by
  have hno := List.any_eq_false.mp h n (mem_allSlots n)
  simp only [hc, bne_iff_ne, ne_eq, hn, not_false_eq_true, Claim.meets, hsp, BEq.rfl, Bool.true_and, List.any_eq_true,
    Bool.and_eq_true, not_exists, not_and, true_and, Bool.not_eq_true] at hno
  exact hno x hx

theorem Claim.extents_reshaping (c : Claim) (b z : Nat) {x : Nat × Nat} (h : x ∈ Claim.extents { c with phase := .reshaping b z }) :
    x ∈ c.extents ∨ x = (b, z) := by
  simp only [Claim.extents, List.mem_cons, List.not_mem_nil, or_false] at h
  rcases h with rfl | rfl
  · left
    unfold Claim.extents
    split <;> simp
  · exact .inr rfl

/-- The claim of one slot takes further extents that are vacant, and the others stand. -/
theorem overlapLaw_set {n : SlotNo} {d : Claim} {b z : Nat} (hs : OverlapLaw s)
    (hclaim : ∀ m, t.claim m = (s.setClaim n (some d)).claim m)
    (hvacant : ∀ m c x, m ≠ n → s.claim m = some c → c.space = d.space → x ∈ c.extents → extentsMeet (b, z) x = false)
    (hextents : ∀ x ∈ d.extents, x = (b, z) ∨ ∃ c, s.claim n = some c ∧ c.space = d.space ∧ x ∈ c.extents) : OverlapLaw t := by
  have hnew (m : SlotNo) (c : Claim) (hm : m ≠ n) (hc : s.claim m = some c) (hsp : c.space = d.space) (x y : Nat × Nat)
      (hx : x ∈ d.extents) (hy : y ∈ c.extents) : extentsMeet x y = false := by
    rcases hextents x hx with rfl | ⟨e, he, hesp, hxe⟩
    · exact hvacant m c y hm hc hsp hy
    · exact hs n m (Ne.symm hm) e c he hc (hesp.trans hsp.symm) x hxe y hy
  intro i j hij c e hc he hsp x hx y hy
  rw [hclaim, State.claim_setClaim] at hc he
  split at hc
  next hi =>
    rw [if_neg (fun hj => hij (hi.symm.trans hj))] at he
    obtain rfl := Option.some.inj hc
    exact hnew j e (fun hj => hij (hi.symm.trans hj.symm)) he hsp.symm x y hx hy
  next hi =>
    split at he
    next hj =>
      obtain rfl := Option.some.inj he
      rw [extentsMeet_comm]
      exact hnew i c (Ne.symm hi) hc hsp y x hy hx
    next => exact hs i j hij c e hc he hsp x hx y hy

theorem overlapLaw_of_claimsStep (h : ClaimsStep o s t) (hs : OverlapLaw s) : OverlapLaw t := by
  cases h with
  | shrink h =>
    intro i j hij c d hc hd hsp x hx y hy
    obtain ⟨c', hc', hwc⟩ := (h i).within c hc
    obtain ⟨d', hd', hwd⟩ := (h j).within d hd
    exact hs i j hij c' d' hc' hd' (hwc.space.symm.trans (hsp.trans hwd.space)) x (hwc.extents hx) y (hwd.extents hy)
  | @fill n w sp b z hwhole hclaim hn hfree hown hwidth hhandle hidentity hroom =>
    refine overlapLaw_set hs hclaim (fun m c x _ hc hsp hx => State.not_meet_of_not_overlaps hroom hc (by simp) hsp hx) fun x hx => ?_
    exact .inl (by simpa [newClaim, Claim.extents] using hx)
  | @reshape n c b z hclaim hown hc hroom =>
    refine overlapLaw_set hs hclaim
      (fun m d x hm hd hsp hx => State.not_meet_of_not_overlaps hroom hd (by simpa using hm) hsp hx) fun x hx => ?_
    rcases c.extents_reshaping b z hx with hx | hx
    · exact .inr ⟨c, hc, rfl, hx⟩
    · exact .inl hx

theorem Move.overlapLaw (h : Move o s t) : OverlapLaw s → OverlapLaw t :=
  overlapLaw_of_claimsStep h.claimsStep

/-! ### Right after reset (R22) -/

theorem Fresh.claim (h : Fresh t) (n : SlotNo) : t.claim n = if n = 0 then some (windowClaim t.winsel) else none := by
  simp only [State.claim, h.claims, State.powerOn, Fin.getElem_fin, Vector.getElem_set, Vector.getElem_replicate, Fin.ext_iff,
    Fin.val_zero, eq_comm]

/-- The one claim after reset is the window's. -/
theorem Fresh.claim_some (h : Fresh t) {n : SlotNo} {c : Claim} (hc : t.claim n = some c) : n = 0 ∧ c = windowClaim t.winsel := by
  rw [h.claim] at hc
  split at hc
  next hn => exact ⟨hn, (Option.some.inj hc).symm⟩
  next => simp at hc

theorem Fresh.windowLaw (h : Fresh t) : WindowLaw t :=
  ⟨by rw [h.claim, if_pos rfl], fun _ hn _ hc => absurd (h.claim_some hc).1 hn⟩

/-- With one claim, a law of two is empty. -/
theorem Fresh.not_two (h : Fresh t) {i j : SlotNo} {c d : Claim} (hc : t.claim i = some c) (hd : t.claim j = some d) : i = j :=
  (h.claim_some hc).1.trans (h.claim_some hd).1.symm

theorem Fresh.overlapLaw (h : Fresh t) : OverlapLaw t :=
  fun _ _ hij _ _ hc hd => absurd (h.not_two hc hd) hij

theorem Fresh.handleLaw (h : Fresh t) : HandleLaw t :=
  fun _ _ hij _ _ hc hd => absurd (h.not_two hc hd) hij

theorem Fresh.widthLaw (h : Fresh t) : WidthLaw t := by
  intro n c hc
  obtain ⟨-, rfl⟩ := h.claim_some hc
  trivial

/-- Settles O53: an admission and a reshape take an extent that passed the overlap test, and no other move lets a claim grow. -/
theorem stepKeepsClaimsDisjoint : Obligations.StepKeepsClaimsDisjoint :=
  fun _ _ hs hstep => step_keeps (fun _ _ hstage => hstage.keeps_of_moves (fun _ _ _ => Move.overlapLaw) fun _ => Fresh.overlapLaw) hstep hs

end Sys2Proof.Machine
end

section
/-! PROOFS. The laws of the ports' records and of the settings. -/

namespace Sys2Proof.Machine

open Sys2Proof

variable {s t : State} {o : Scope} {d : Nat} {x y : PortRecord}

/-! ### The laws of one record -/

/-- The law of a record's identity and credit (R91). -/
def PortRecord.SessionOk (x : PortRecord) : Prop :=
  if x.state.linked then x.identity.isSome ∧ 1 ≤ x.credit ∧ x.credit ≤ 8 else x.identity = none ∧ x.credit = 0

/-- The ranges of a record's quota and hold time (R20, R136). -/
def PortRecord.RangesOk (x : PortRecord) : Prop :=
  x.quota ≤ 16 ∧ x.holdTime ≤ 60000

/-- The record keeps each of its laws on its own, from one doze idle time to another. -/
structure RecordLegal (d d' : Nat) (x y : PortRecord) : Prop where
  handshake : x.HandshakeOk → y.HandshakeOk
  lists : x.ListsOk → y.ListsOk
  idle : x.IdleOk d → y.IdleOk d'
  room : x.RoomOk → y.RoomOk
  session : x.SessionOk → y.SessionOk
  ranges : x.RangesOk → y.RangesOk

theorem RecordLegal.refl (d : Nat) (x : PortRecord) : RecordLegal d d x x :=
  ⟨id, id, id, id, id, id⟩

theorem RecordKept.legal (h : RecordKept d x y) : RecordLegal d d x y := by
  refine ⟨h.handshake, h.lists, h.idle, h.room, fun hx => ?_, fun hx => ?_⟩
  · simpa only [PortRecord.SessionOk, h.linked, h.identity, h.credit] using hx
  · simpa only [PortRecord.RangesOk, h.quota, h.holdTime] using hx

theorem RecordShut.legal (h : RecordShut x y) : RecordLegal d d x y := by
  refine ⟨fun _ hshake => absurd h.handshake hshake, fun _ _ => h.lists, fun _ htimer => ?_, fun _ => ?_, fun _ => ?_, fun hx => ?_⟩
  · simp [h.idle] at htimer
  · simp [PortRecord.RoomOk, h.lists.2.1]
  · simp [PortRecord.SessionOk, h.unlinked, h.identity, h.credit]
  · simpa only [PortRecord.RangesOk, h.quota, h.holdTime] using hx

theorem RecordOpened.legal (h : RecordOpened d x y) : RecordLegal d d x y := by
  have hlinked : y.state.linked = true := linked_of_state h.run rfl
  refine ⟨fun _ _ => h.run, fun _ hunlinked => absurd (hlinked.symm.trans hunlinked) (by simp), fun _ => h.idle, fun hx => ?_,
    fun _ => ?_, fun hx => ?_⟩
  · simpa only [PortRecord.RoomOk, h.receiveList] using hx
  · simpa only [PortRecord.SessionOk, hlinked, if_true, h.identity, true_and] using h.credit
  · simpa only [PortRecord.RangesOk, h.quota, h.holdTime] using hx

/-- A record that stands but for what its laws do not read, and for its settings, which stay in range. -/
theorem RecordLegal.settings
    (hy : y = { x with
      claimCount := y.claimCount, flags := y.flags, issueList := y.issueList, tagsInUse := y.tagsInUse, holdTimer := y.holdTimer
      quota := y.quota, holdTime := y.holdTime })
    (hranges : x.RangesOk → y.RangesOk) : RecordLegal d d x y := by
  refine ⟨?_, ?_, ?_, ?_, ?_, hranges⟩
  all_goals rw [hy]; exact id

theorem RecordLegal.counted (hy : y = { x with
      claimCount := y.claimCount, flags := y.flags, issueList := y.issueList, tagsInUse := y.tagsInUse, holdTimer := y.holdTimer }) :
    RecordLegal d d x y := by
  refine .settings (by rw [hy]) ?_
  rw [hy]
  exact id

theorem RecordLegal.trans {d d' d'' : Nat} {z : PortRecord} (h : RecordLegal d d' x y) (h' : RecordLegal d' d'' y z) :
    RecordLegal d d'' x z :=
  ⟨h'.handshake ∘ h.handshake, h'.lists ∘ h.lists, h'.idle ∘ h.idle, h'.room ∘ h.room, h'.session ∘ h.session, h'.ranges ∘ h.ranges⟩

/-! ### What a move does to a record -/

@[simp] theorem State.dozeIdleTime_afterSettle (s : State) (n : SlotNo) (c : Claim) :
    (s.afterSettle n c).dozeIdleTime = s.dozeIdleTime := by
  unfold State.afterSettle
  split <;> rfl

@[simp] theorem State.dozeIdleTime_lowered (s : State) (n : SlotNo) : (s.lowered n).dozeIdleTime = s.dozeIdleTime := by
  unfold State.lowered
  split
  · rfl
  · split
    · exact s.dozeIdleTime_afterSettle n _
    · rfl

/-- A write of one port's record. -/
theorem recordLegal_setPort {p : Port} (h : RecordLegal s.dozeIdleTime s.dozeIdleTime (s.port p) y) (q : Port) :
    RecordLegal s.dozeIdleTime (s.setPort p y).dozeIdleTime (s.port q) ((s.setPort p y).port q) := by
  rw [State.dozeIdleTime_setPort, State.port_setPort]
  split
  next hq => exact hq ▸ h
  next => exact .refl _ _

theorem recordLegal_afterSettle (s : State) (n : SlotNo) (c : Claim) (q : Port) :
    RecordLegal s.dozeIdleTime (s.afterSettle n c).dozeIdleTime (s.port q) ((s.afterSettle n c).port q) := by
  obtain ⟨count, marks, hport⟩ := s.port_afterSettle n c q
  rw [State.dozeIdleTime_afterSettle, hport]
  exact .counted rfl

theorem recordLegal_lowered (s : State) (n : SlotNo) (q : Port) :
    RecordLegal s.dozeIdleTime (s.lowered n).dozeIdleTime (s.port q) ((s.lowered n).port q) := by
  obtain ⟨count, marks, hport⟩ := s.port_lowered n q
  rw [State.dozeIdleTime_lowered, hport]
  exact .counted rfl

/-- A doze idle time that stops the timers where it is 0 (R118). -/
theorem recordLegal_setIdle {v : Nat} (q : Port) :
    RecordLegal s.dozeIdleTime (if v = 0 then State.stopIdleTimers { s with dozeIdleTime := v } else { s with dozeIdleTime := v }).dozeIdleTime
      (s.port q) ((if v = 0 then State.stopIdleTimers { s with dozeIdleTime := v } else { s with dozeIdleTime := v }).port q) := by
  split
  next =>
    rw [State.stopIdleTimers_port]
    exact ⟨id, id, fun _ h => absurd h (by simp), id, id, id⟩
  next hv => exact ⟨id, id, fun h htimer => ⟨(h htimer).1, (h htimer).2.1, hv, (h htimer).2.2.2⟩, id, id, id⟩

theorem Move.recordLegal (h : Move o s t) (q : Port) : RecordLegal s.dozeIdleTime t.dozeIdleTime (s.port q) (t.port q) := by
  cases h with
  | frame h =>
    rw [h.dozeIdleTime, h.port]
    exact .refl _ _
  | record h => exact recordLegal_setPort h.legal q
  | halt h => exact recordLegal_setPort h.legal q
  | shut h => exact recordLegal_setPort h.legal q
  | opening h => exact recordLegal_setPort (s := s.revived _) h.legal q
  | holdStart => exact recordLegal_setPort (.counted rfl) q
  | holdStop => exact recordLegal_setPort (.counted rfl) q
  | freeTags => exact recordLegal_setPort (.counted rfl) q
  | clearList => exact recordLegal_setPort (.counted rfl) q
  | @setQuota _ p v _ hrange => exact recordLegal_setPort (y := { s.port p with quota := v }) (.settings rfl fun hx => ⟨hrange, hx.2⟩) q
  | @setHold _ p v hrange => exact recordLegal_setPort (y := { s.port p with holdTime := v }) (.settings rfl fun hx => ⟨hx.1, hrange⟩) q
  | @setPool _ sp pool => cases sp <;> exact .refl _ _
  | setIdle => exact recordLegal_setIdle q
  | retire => exact recordLegal_setPort (s := s.setClaim _ none) (.counted rfl) q
  | admitBoard => exact recordLegal_setPort (s := s.setClaim _ _) (.counted rfl) q
  | settle => exact recordLegal_afterSettle ..
  | @release _ _ k e tags flags =>
    have hleft := recordLegal_setPort (s := s) (p := e.port) (y := (s.port e.port).left k tags flags) (.counted rfl) q
    exact hleft.trans (recordLegal_lowered ((s.setPort e.port ((s.port e.port).left k tags flags)).setEntry k none) e.slot q)
  | create => exact recordLegal_setPort (s := (s.setEntry _ _).setClaim _ _) (.counted rfl) q
  | issue => exact recordLegal_setPort (s := s.setEntry _ _) (.counted rfl) q
  | complete => exact recordLegal_setPort (s := s) (.counted rfl) q
  | orphan | setTiming | admitHost | reshape | drain | disown => exact .refl _ _

/-! ### The laws of a state -/

theorem idleTimerLaw_iff (s : State) : IdleTimerLaw s ↔ ∀ p, (s.port p).IdleOk s.dozeIdleTime := by
  simp only [IdleTimerLaw, PortRecord.IdleOk, State.idleMayRun_iff]

theorem Move.handshakeLaw (h : Move o s t) (hs : HandshakeLaw s) : HandshakeLaw t :=
  fun p => (h.recordLegal p).handshake (hs p)

theorem Move.sessionLaw (h : Move o s t) (hs : SessionLaw s) : SessionLaw t :=
  fun p => (h.recordLegal p).session (hs p)

theorem Move.closedListsLaw (h : Move o s t) (hs : ClosedListsLaw s) : ClosedListsLaw t :=
  fun p => (h.recordLegal p).lists (hs p)

theorem Move.idleTimerLaw (h : Move o s t) (hs : IdleTimerLaw s) : IdleTimerLaw t :=
  (idleTimerLaw_iff t).mpr fun p => (h.recordLegal p).idle ((idleTimerLaw_iff s).mp hs p)

theorem Move.receiveRoom (h : Move o s t) (hs : ReceiveRoom s) : ReceiveRoom t :=
  fun p => (h.recordLegal p).room (hs p)

/-- The ranges of the settings that no port holds (R16, R81, R106, R118). -/
def State.TimingOk (s : State) : Prop :=
  (100 ≤ s.completionTimeout ∧ s.completionTimeout ≤ 65000) ∧ s.dozeIdleTime ≤ 65000 ∧
    (1 ≤ s.realignLimit ∧ s.realignLimit ≤ 7) ∧ poolGood .mem s.memPool = true ∧ poolGood .io s.ioPool = true

/-- The settings that no port holds stand. -/
def State.timing (s : State) : Nat × Nat × Nat × Pool × Pool :=
  (s.completionTimeout, s.dozeIdleTime, s.realignLimit, s.memPool, s.ioPool)

theorem State.TimingOk.of_timing (hs : s.TimingOk) (h : t.timing = s.timing) : t.TimingOk := by
  simp only [State.timing, Prod.mk.injEq] at h
  obtain ⟨h1, h2, h3, h4, h5⟩ := h
  simpa only [State.TimingOk, h1, h2, h3, h4, h5] using hs

theorem State.timing_afterSettle (s : State) (n : SlotNo) (c : Claim) : (s.afterSettle n c).timing = s.timing := by
  unfold State.afterSettle
  split <;> rfl

theorem State.timing_lowered (s : State) (n : SlotNo) : (s.lowered n).timing = s.timing := by
  unfold State.lowered
  split
  · rfl
  · split
    · exact s.timing_afterSettle n _
    · rfl

theorem State.timing_stopIdleTimers (s : State) : s.stopIdleTimers.timing = s.timing := by
  simp only [State.timing]
  rw [State.stopIdleTimers_frame]

theorem Move.timingOk (h : Move o s t) (hs : s.TimingOk) : t.TimingOk := by
  cases h with
  | frame h => exact hs.of_timing (by simp only [State.timing, h.completionTimeout, h.dozeIdleTime, h.realignLimit, h.memPool, h.ioPool])
  | @setPool _ sp pool hrange =>
    obtain ⟨htimeout, hidle, hlimit, hmem, hio⟩ := hs
    cases sp with
    | mem => exact ⟨htimeout, hidle, hlimit, hrange, hio⟩
    | io => exact ⟨htimeout, hidle, hlimit, hmem, hrange⟩
  | setTiming hu hv =>
    obtain ⟨htimeout, hidle, hlimit, hpools⟩ := hs
    exact ⟨hu.elim id fun h => h ▸ htimeout, hidle, hv.elim id fun h => h ▸ hlimit, hpools⟩
  | @setIdle _ v hrange =>
    obtain ⟨htimeout, hidle, hrest⟩ := hs
    have hset : State.TimingOk { s with dozeIdleTime := v } := ⟨htimeout, hrange, hrest⟩
    split
    · exact hset.of_timing (State.timing_stopIdleTimers _)
    · exact hset
  | settle => exact hs.of_timing (State.timing_afterSettle ..)
  | release => exact hs.of_timing (State.timing_lowered ..)
  | _ => exact hs

theorem settingsLaw_iff (s : State) : SettingsLaw s ↔ s.TimingOk ∧ ∀ p, (s.port p).RangesOk := by
  simp only [SettingsLaw, State.TimingOk, PortRecord.RangesOk, and_assoc]

theorem Move.settingsLaw (h : Move o s t) (hs : SettingsLaw s) : SettingsLaw t := by
  obtain ⟨htiming, hranges⟩ := (settingsLaw_iff s).mp hs
  exact (settingsLaw_iff t).mpr ⟨h.timingOk htiming, fun p => (h.recordLegal p).ranges (hranges p)⟩

/-! ### Right after reset (R22, R92) -/

/-- The record of a port after reset meets the laws of a record. -/
theorem Fresh.record (h : Fresh t) (p : Port) : (t.port p).HandshakeOk ∧ (t.port p).ListsOk ∧ (t.port p).IdleOk t.dozeIdleTime ∧
    (t.port p).RoomOk ∧ (t.port p).SessionOk ∧ (t.port p).RangesOk := by
  obtain ⟨b, hb⟩ := h.ports p
  rw [hb]
  simp [PortRecord.HandshakeOk, PortRecord.ListsOk, PortRecord.IdleOk, PortRecord.RoomOk, PortRecord.SessionOk, PortRecord.RangesOk,
    PortRecord.reset, PortState.linked]

theorem Fresh.settingsLaw (h : Fresh t) : SettingsLaw t := by
  refine (settingsLaw_iff t).mpr ⟨?_, fun p => (h.record p).2.2.2.2.2⟩
  simp only [State.TimingOk, h.completionTimeout, h.dozeIdleTime, h.realignLimit, h.memPool, h.ioPool]
  decide

theorem Fresh.sessionLaw (h : Fresh t) : SessionLaw t :=
  fun p => (h.record p).2.2.2.2.1

theorem Fresh.handshakeLaw (h : Fresh t) : HandshakeLaw t :=
  fun p => (h.record p).1

theorem Fresh.closedListsLaw (h : Fresh t) : ClosedListsLaw t :=
  fun p => (h.record p).2.1

theorem Fresh.idleTimerLaw (h : Fresh t) : IdleTimerLaw t :=
  (idleTimerLaw_iff t).mpr fun p => (h.record p).2.2.1

theorem Fresh.receiveRoom (h : Fresh t) : ReceiveRoom t :=
  fun p => (h.record p).2.2.2.1

/-- A law that every move keeps and that holds after reset is kept by a step. -/
theorem step_keeps_of_moves {P : State → Prop} (hP : ∀ o s t, Move o s t → P s → P t) (hfresh : ∀ t, Fresh t → P t)
    (h : step s = .next t) : P s → P t :=
  step_keeps (fun _ _ hstage => hstage.keeps_of_moves hP hfresh) h

/-- Settles O58: each law speaks of one record or of the settings, and every move keeps it there. -/
theorem stepKeepsPortLaws : Obligations.StepKeepsPortLaws :=
  fun _ _ h =>
    ⟨step_keeps_of_moves (fun _ _ _ => Move.settingsLaw) (fun _ => Fresh.settingsLaw) h,
      step_keeps_of_moves (fun _ _ _ => Move.sessionLaw) (fun _ => Fresh.sessionLaw) h,
      step_keeps_of_moves (fun _ _ _ => Move.handshakeLaw) (fun _ => Fresh.handshakeLaw) h,
      step_keeps_of_moves (fun _ _ _ => Move.closedListsLaw) (fun _ => Fresh.closedListsLaw) h,
      step_keeps_of_moves (fun _ _ _ => Move.idleTimerLaw) (fun _ => Fresh.idleTimerLaw) h,
      step_keeps_of_moves (fun _ _ _ => Move.receiveRoom) (fun _ => Fresh.receiveRoom) h⟩

end Sys2Proof.Machine
end

section
/-! PROOFS. The law of the quota: every move that changes how many BOARD claims a port has changes its claim count with it. -/

namespace Sys2Proof.Machine

open Sys2Proof

variable {s t : State} {o : Scope}

/-! ### Counting the board claims of a port (R19) -/

theorem State.boardClaims_eq (s : State) (p : Port) : s.boardClaims p = allSlots.countP fun n => (s.claim n).any fun c => c.isBoardOf p := by
  unfold State.boardClaims
  congr 1
  funext n
  cases s.claim n <;> rfl

theorem boardClaims_congr {p : Port} (h : ∀ n, (t.claim n).any (fun c => c.isBoardOf p) = (s.claim n).any fun c => c.isBoardOf p) :
    t.boardClaims p = s.boardClaims p := by
  simp only [State.boardClaims_eq, h]

/-- One slot is written. -/
theorem boardClaims_set {n : SlotNo} {d : Option Claim} (h : ∀ m, t.claim m = if n = m then d else s.claim m) (p : Port) :
    t.boardClaims p + ((s.claim n).any fun c => c.isBoardOf p).toNat =
      s.boardClaims p + (d.any fun c => c.isBoardOf p).toNat := by
  simp only [State.boardClaims_eq]
  have hbefore := countP_add_toNat (f := fun m => decide (m ≠ n) && (s.claim m).any fun c => c.isBoardOf p)
    (g := fun m => (s.claim m).any fun c => c.isBoardOf p) nodup_allSlots (mem_allSlots n) (fun m hm => by simp [hm]) (by simp)
  have hafter := countP_add_toNat (f := fun m => decide (m ≠ n) && (s.claim m).any fun c => c.isBoardOf p)
    (g := fun m => (t.claim m).any fun c => c.isBoardOf p) nodup_allSlots (mem_allSlots n)
    (fun m hm => by simp [h, hm, Ne.symm hm]) (by simp)
  rw [h, if_pos rfl] at hafter
  omega

/-! ### What a move does to a port's count -/

/-- The claim count and the quota of a port before and after, against the number of its board claims. -/
inductive CountStep (s t : State) (p : Port) : Prop
  | same (hclaims : t.boardClaims p = s.boardClaims p) (hcount : (t.port p).claimCount = (s.port p).claimCount)
      (hquota : (t.port p).quota = (s.port p).quota)
  | added (hclaims : t.boardClaims p = s.boardClaims p + 1) (hcount : (t.port p).claimCount = (s.port p).claimCount + 1)
      (hquota : (t.port p).quota = (s.port p).quota) (hroom : (s.port p).claimCount ≠ (s.port p).quota)
  | dropped (hclaims : t.boardClaims p + 1 = s.boardClaims p) (hcount : (t.port p).claimCount = (s.port p).claimCount - 1)
      (hquota : (t.port p).quota = (s.port p).quota)
  | quota (hclaims : t.boardClaims p = s.boardClaims p) (hcount : (t.port p).claimCount = (s.port p).claimCount)
      (hquota : (s.port p).claimCount ≤ (t.port p).quota)

theorem CountStep.keeps {p : Port} (h : CountStep s t p)
    (hs : (s.port p).claimCount = s.boardClaims p ∧ s.boardClaims p ≤ (s.port p).quota) :
    (t.port p).claimCount = t.boardClaims p ∧ t.boardClaims p ≤ (t.port p).quota := by
  cases h <;> omega

theorem CountStep.refl (s : State) (p : Port) : CountStep s s p :=
  .same rfl rfl rfl

/-- A port's record is written, with its count and its quota as they were. -/
theorem countStep_setPort {p : Port} {y : PortRecord} (hcount : y.claimCount = (s.port p).claimCount)
    (hquota : y.quota = (s.port p).quota) (q : Port) : CountStep s (s.setPort p y) q := by
  refine .same rfl ?_ ?_
  all_goals
    rw [State.port_setPort]
    split
    next h => simpa only [← h]
    next => rfl

/-- Ports and claims stand, but for claims that stay on their ports. -/
theorem countStep_claims {p : Port} (h : ∀ n, (t.claim n).any (fun c => c.isBoardOf p) = (s.claim n).any fun c => c.isBoardOf p)
    (hport : t.port p = s.port p) : CountStep s t p :=
  .same (boardClaims_congr h) (by rw [hport]) (by rw [hport])

theorem Claim.isBoardOf_of_owner {c d : Claim} (h : d.owner = c.owner) (p : Port) : d.isBoardOf p = c.isBoardOf p := by
  simp only [Claim.isBoardOf, h]

/-- One claim is written under the same owner. -/
theorem countStep_setClaim {n : SlotNo} {c d : Claim} (hc : s.claim n = some c) (howner : d.owner = c.owner) (p : Port) :
    CountStep s (s.setClaim n (some d)) p := by
  refine countStep_claims (fun m => ?_) rfl
  rw [State.claim_setClaim]
  split
  next h => rw [← h, hc, Option.any_some, Option.any_some, Claim.isBoardOf_of_owner howner]
  next => rfl

/-- A board claim is counted out as its slot becomes FREE. -/
theorem countStep_retire {n : SlotNo} {c : Claim} {p : Port} {marks : BitVec 12} (hc : s.claim n = some c)
    (hboard : c.isBoardOf p = true) (q : Port) :
    CountStep s ((s.setClaim n none).setPort p
      { s.port p with claimCount := (s.port p).claimCount - 1, flags := (s.port p).flags ||| marks }) q := by
  have hclaims := boardClaims_set (s := s) (t := (s.setClaim n none).setPort p
    { s.port p with claimCount := (s.port p).claimCount - 1, flags := (s.port p).flags ||| marks }) (d := none)
    (fun m => s.claim_setClaim n m none) q
  rw [hc, Option.any_some, Option.any_none] at hclaims
  by_cases hq : q = p
  · subst hq
    rw [hboard] at hclaims
    refine .dropped hclaims ?_ ?_ <;> rw [State.port_setPort_self]
  · have hother : c.isBoardOf q = false := by
      by_contra h
      exact hq (Claim.port_of_isBoardOf (by simpa using h) hboard)
    rw [hother] at hclaims
    refine .same hclaims ?_ ?_ <;> rw [State.port_setPort_ne _ _ hq] <;> rfl

theorem Claim.isBoardOf_iff (c : Claim) (p : Port) : c.isBoardOf p = true ↔ ∃ h y a, c.owner = .board p h y a := by
  unfold Claim.isBoardOf
  cases c.owner <;> simp

theorem Claim.owner_of_settled {c d : Claim} (h : c.settled = some d) : d.owner = c.owner :=
  (Claim.within_settled h).owner

/-- A claim that settles is counted out where its board loses it. -/
theorem countStep_afterSettle {n : SlotNo} {c : Claim} (hc : ∃ b, s.claim n = some b ∧ b.owner = c.owner) (q : Port) :
    CountStep s (s.afterSettle n c) q := by
  obtain ⟨b, hb, howner⟩ := hc
  unfold State.afterSettle
  split
  next p h y a hown =>
    have hboard : b.isBoardOf p = true := (b.isBoardOf_iff p).mpr ⟨h, y, a, howner.trans hown⟩
    cases hsettled : c.settled with
    | none =>
      have hfrees : c.freesBoard = true := by simp [Claim.freesBoard, hsettled, Claim.isBoard, hown]
      rw [hfrees]
      exact countStep_retire hb hboard q
    | some d =>
      have hfrees : c.freesBoard = false := by simp [Claim.freesBoard, hsettled]
      rw [hfrees]
      refine .same (boardClaims_congr fun m => ?_) ?_ ?_
      · rw [State.claim_setPort, State.claim_setClaim]
        split
        next hm => rw [← hm, hb, Option.any_some, Option.any_some,
          Claim.isBoardOf_of_owner ((Claim.owner_of_settled hsettled).trans howner.symm)]
        next => rfl
      all_goals
        rw [State.port_setPort]
        split
        next hp => simp [← hp]
        next => rfl
  all_goals
    next hown =>
      refine countStep_claims (fun m => ?_) rfl
      rw [State.claim_setClaim]
      split
      next hm =>
        rw [← hm, hb]
        cases hsettled : c.settled with
        | none => simp [Claim.isBoardOf, howner, hown]
        | some d =>
          rw [Option.any_some, Option.any_some, Claim.isBoardOf_of_owner ((Claim.owner_of_settled hsettled).trans howner.symm)]
      next => rfl

theorem countStep_lowered (s : State) (n : SlotNo) (q : Port) : CountStep s (s.lowered n) q := by
  unfold State.lowered
  split
  · exact .refl s q
  next c hc =>
    split
    · exact countStep_afterSettle ⟨c, hc, rfl⟩ q
    · exact countStep_setClaim hc (by rfl) q

theorem Claim.isBoardOf_orphaned (c : Claim) (p q : Port) : (c.orphaned p).isBoardOf q = c.isBoardOf q :=
  Claim.isBoardOf_of_owner (c.within_orphaned p).owner q

theorem Claim.isBoardOf_revived (c : Claim) (p q : Port) : (c.revived p).isBoardOf q = c.isBoardOf q :=
  Claim.isBoardOf_of_owner (c.within_revived p).owner q

/-- A change of records and counts after one of claims that leaves the records. -/
theorem CountStep.after {u : State} {q : Port} (h : CountStep s t q) (hclaims : u.boardClaims q = t.boardClaims q)
    (hcount : (u.port q).claimCount = (t.port q).claimCount) (hquota : (u.port q).quota = (t.port q).quota) : CountStep s u q := by
  cases h with
  | same h1 h2 h3 => exact .same (hclaims.trans h1) (hcount.trans h2) (hquota.trans h3)
  | added h1 h2 h3 h4 => exact .added (hclaims.trans h1) (hcount.trans h2) (hquota.trans h3) h4
  | dropped h1 h2 h3 => exact .dropped (by omega) (hcount.trans h2) (hquota.trans h3)
  | quota h1 h2 h3 => exact .quota (hclaims.trans h1) (hcount.trans h2) (by omega)

/-- A change of claims and counts after one of records that leaves both. -/
theorem CountStep.before {u : State} {q : Port} (h : CountStep t u q) (hclaims : t.boardClaims q = s.boardClaims q)
    (hcount : (t.port q).claimCount = (s.port q).claimCount) (hquota : (t.port q).quota = (s.port q).quota) : CountStep s u q := by
  cases h with
  | same h1 h2 h3 => exact .same (h1.trans hclaims) (h2.trans hcount) (h3.trans hquota)
  | added h1 h2 h3 h4 => exact .added (by omega) (by omega) (by omega) (by omega)
  | dropped h1 h2 h3 => exact .dropped (by omega) (by omega) (by omega)
  | quota h1 h2 h3 => exact .quota (by omega) (by omega) (by omega)

theorem Move.countStep (h : Move o s t) (q : Port) : CountStep s t q := by
  cases h with
  | frame h => exact countStep_claims (fun n => by rw [h.claim]) (h.port q)
  | record h | halt h | shut h => exact countStep_setPort h.claimCount h.quota q
  | holdStart | holdStop | freeTags | clearList | setHold => exact countStep_setPort (by rfl) (by rfl) q
  | @complete _ k e i u st d flags =>
    exact (countStep_setPort (y := { s.port e.port with tagsInUse := (s.port e.port).tagsInUse.set u.val false, flags := flags })
      rfl rfl q).after rfl rfl rfl
  | @issue _ k e p u =>
    refine .same rfl ?_ ?_
    all_goals
      rw [State.port_setPort]
      split
      next hp => rw [← hp]
      next => rfl
  | setTiming | disown => exact .same rfl rfl rfl
  | @setPool _ sp pool => cases sp <;> exact .same rfl rfl rfl
  | setIdle =>
    split
    · refine .same (boardClaims_congr fun n => ?_) ?_ ?_
      · rw [State.claim_stopIdleTimers]
        rfl
      all_goals
        rw [State.stopIdleTimers_port]
        rfl
    · exact .same rfl rfl rfl
  | @orphan _ p =>
    refine countStep_claims (fun n => ?_) rfl
    rw [State.claim_orphaned]
    cases s.claim n with
    | none => rfl
    | some c => exact c.isBoardOf_orphaned p q
  | @opening _ p y h =>
    have hclaims : (s.revived p).boardClaims q = s.boardClaims q := boardClaims_congr fun n => by
      rw [State.claim_revived]
      cases s.claim n with
      | none => rfl
      | some c => exact c.isBoardOf_revived p q
    exact (countStep_setPort (s := s) h.claimCount h.quota q).after hclaims rfl rfl
  | @setQuota _ p v hcount =>
    by_cases hq : q = p
    · subst hq
      exact .quota rfl (by rw [State.port_setPort_self]) (by rw [State.port_setPort_self]; exact hcount)
    · exact .same rfl (by rw [State.port_setPort_ne _ _ hq]) (by rw [State.port_setPort_ne _ _ hq])
  | @admitHost _ n w sp b z hn hfree howner =>
    refine countStep_claims (fun m => ?_) rfl
    rw [State.claim_setClaim]
    split
    next hm =>
      rw [← hm, hfree]
      rcases howner with rfl | ⟨_, _, rfl, -⟩ <;> rfl
    next => rfl
  | @admitBoard _ n p h a sp b z hn hfree hrun hhandle hquota =>
    have hclaims := boardClaims_set (s := s) (t := s.setClaim n
      (some (newClaim (.board p h ((s.port p).identity.getD 0) a) sp b z))) (fun m => s.claim_setClaim n m _) q
    rw [hfree, Option.any_none, Option.any_some] at hclaims
    by_cases hq : q = p
    · subst hq
      have hboard : (newClaim (.board q h ((s.port q).identity.getD 0) a) sp b z).isBoardOf q = true := by
        simp [newClaim, Claim.isBoardOf]
      rw [hboard] at hclaims
      refine .added hclaims ?_ ?_ hquota <;> rw [State.port_setPort_self]
    · have hboard : (newClaim (.board p h ((s.port p).identity.getD 0) a) sp b z).isBoardOf q = false := by
        simp [newClaim, Claim.isBoardOf, Ne.symm hq]
      rw [hboard] at hclaims
      refine .same hclaims ?_ ?_ <;> rw [State.port_setPort_ne _ _ hq] <;> rfl
  | retire hc hboard => exact countStep_retire hc hboard q
  | reshape _ hc | drain _ hc => exact countStep_setClaim hc (by rfl) q
  | settle hc => exact countStep_afterSettle ⟨_, hc, rfl⟩ q
  | @release _ _ k e tags flags =>
    have hleft (r : Port) : ((s.setPort e.port ((s.port e.port).left k tags flags)).port r).claimCount = (s.port r).claimCount ∧
        ((s.setPort e.port ((s.port e.port).left k tags flags)).port r).quota = (s.port r).quota := by
      rw [State.port_setPort]
      split
      next hp => rw [← hp]; exact ⟨rfl, rfl⟩
      next => exact ⟨rfl, rfl⟩
    exact (countStep_lowered ((s.setPort e.port ((s.port e.port).left k tags flags)).setEntry k none) e.slot q).before rfl
      (hleft q).1 (hleft q).2
  | @create _ k e n c p a hk hc =>
    refine (countStep_setClaim (d := { c with inFlight := c.inFlight + 1 }) hc rfl q).after rfl ?_ ?_
    all_goals
      rw [State.port_setPort]
      split
      next hp => rw [← hp]; rfl
      next => rfl

theorem Move.quotaLaw (h : Move o s t) (hs : QuotaLaw s) : QuotaLaw t :=
  fun p => (h.countStep p).keeps (hs p)

theorem Fresh.quotaLaw (h : Fresh t) : QuotaLaw t := by
  intro p
  have hnone : t.boardClaims p = 0 := by
    rw [State.boardClaims_eq, List.countP_eq_zero]
    intro n _
    rw [h.claim]
    split <;> simp [windowClaim, Claim.isBoardOf]
  obtain ⟨b, hb⟩ := h.ports p
  rw [hnone, hb]
  exact ⟨rfl, Nat.zero_le _⟩

end Sys2Proof.Machine
end

section
/-! PROOFS. The in-flight counts: every claim counts the entries bound to it, through each move and each stage. -/

namespace Sys2Proof.Machine

open Sys2Proof

variable {s t : State} {o : Scope}

/-! ### The law, slot by slot -/

/-- The accesses in flight of a slot; a FREE slot has none (R5). -/
def State.inFlightAt (s : State) (n : SlotNo) : Nat :=
  (s.claim n).elim 0 Claim.inFlight

theorem inFlightLaw_iff (s : State) : InFlightLaw s ↔ ∀ n, s.inFlightAt n = s.boundEntries n := by
  refine forall_congr' fun n => ?_
  unfold State.inFlightAt
  cases s.claim n with
  | none => exact eq_comm
  | some c => exact Iff.rfl

theorem State.boundEntries_pos {k : EntryNo} {e : Entry} (he : s.entry k = some e) : 0 < s.boundEntries e.slot := by
  rw [State.boundEntries_eq, List.countP_pos_iff]
  exact ⟨k, mem_allEntries k, by simp [he]⟩

/-- An entry is freed: the count of its slot is one lower, the others stand. -/
theorem boundEntries_freed {k : EntryNo} {e : Entry} (he : s.entry k = some e)
    (ht : ∀ j, t.entry j = if k = j then none else s.entry j) (n : SlotNo) :
    s.boundEntries n = t.boundEntries n + (e.slot == n).toNat := by
  simp only [State.boundEntries_eq]
  have hcount := countP_add_toNat (f := fun j => (t.entry j).any fun d => d.slot == n)
    (g := fun j => (s.entry j).any fun d => d.slot == n) nodup_allEntries (mem_allEntries k)
    (fun j hj => by simp [ht, Ne.symm hj]) (by simp [ht])
  rwa [he, Option.any_some] at hcount

/-- An entry is created in a free place. -/
theorem boundEntries_created {k : EntryNo} {e : Entry} (hk : s.entry k = none)
    (ht : ∀ j, t.entry j = if k = j then some e else s.entry j) (n : SlotNo) :
    t.boundEntries n = s.boundEntries n + (e.slot == n).toNat := by
  simp only [State.boundEntries_eq]
  have hcount := countP_add_toNat (f := fun j => (s.entry j).any fun d => d.slot == n)
    (g := fun j => (t.entry j).any fun d => d.slot == n) nodup_allEntries (mem_allEntries k)
    (fun j hj => by simp [ht, Ne.symm hj]) (by simp [hk])
  rwa [ht, if_pos rfl, Option.any_some] at hcount

/-- The slot and the port of the entry in a place (R67). -/
def State.boundAt (s : State) (k : EntryNo) : Option (SlotNo × Port) :=
  (s.entry k).map fun e => (e.slot, e.port)

theorem boundEntries_congr (h : ∀ k, t.boundAt k = s.boundAt k) (n : SlotNo) : t.boundEntries n = s.boundEntries n := by
  have hcount (u : State) : u.boundEntries n = allEntries.countP fun k => (u.boundAt k).any fun b => b.1 == n := by
    simp only [State.boundEntries_eq, State.boundAt, Option.any_map]
  simp only [hcount, h]

/-- The laws that tie entries to claims (R5, R67). -/
def Bound (s : State) : Prop :=
  InFlightLaw s ∧ BindingLaw s

theorem Bound.inFlight_eq (h : Bound s) {n : SlotNo} {c : Claim} (hc : s.claim n = some c) : c.inFlight = s.boundEntries n := by
  have hn := (inFlightLaw_iff s).mp h.1 n
  simpa [State.inFlightAt, hc] using hn

/-- Entries and counts stand, and so does the port of every claim with an access in flight. -/
theorem Bound.congr (h : Bound s) (hentry : ∀ k, t.boundAt k = s.boundAt k) (hcount : ∀ n, t.inFlightAt n = s.inFlightAt n)
    (hport : ∀ n, s.inFlightAt n ≠ 0 → (t.claim n).bind Claim.port = (s.claim n).bind Claim.port) : Bound t := by
  obtain ⟨hflight, hbinding⟩ := h
  rw [inFlightLaw_iff] at hflight
  refine ⟨(inFlightLaw_iff t).mpr fun n => ?_, fun k d hd => ?_⟩
  · rw [hcount, hflight, boundEntries_congr hentry]
  · have hk := hentry k
    simp only [State.boundAt, hd, Option.map_some] at hk
    obtain ⟨e, he, hslot⟩ := Option.map_eq_some_iff.mp hk.symm
    obtain ⟨hslot, heport⟩ := Prod.mk.inj hslot
    have hpos := State.boundEntries_pos he
    rw [← hflight] at hpos
    rw [← hslot, hport _ hpos.ne', hbinding k e he, heport]

/-- One claim is written, with its count as it was, and with its port where it has accesses in flight. -/
theorem Bound.setClaim (h : Bound s) {n : SlotNo} {d : Option Claim} (hentry : ∀ k, t.entry k = s.entry k)
    (hclaim : ∀ m, t.claim m = if n = m then d else s.claim m) (hcount : d.elim 0 Claim.inFlight = s.inFlightAt n)
    (hport : s.inFlightAt n ≠ 0 → d.bind Claim.port = (s.claim n).bind Claim.port) : Bound t := by
  refine h.congr (fun k => by rw [State.boundAt, hentry]; rfl) (fun m => ?_) fun m hm => ?_
  · rw [State.inFlightAt, hclaim]
    split
    next hnm => rw [← hnm, hcount]
    next => rfl
  · rw [hclaim]
    split
    next hnm =>
      rw [← hnm] at hm ⊢
      exact hport hm
    next => rfl

/-- Claims and entries stand, but for what the entries say beside their slot and port. -/
theorem Bound.same (h : Bound s) (hentry : ∀ k, t.boundAt k = s.boundAt k) (hclaim : ∀ n, t.claim n = s.claim n) : Bound t :=
  h.congr hentry (fun n => by rw [State.inFlightAt, hclaim]; rfl) fun n _ => by rw [hclaim]

theorem boundAt_setEntry {k : EntryNo} {e d : Entry} (he : s.entry k = some e) (hslot : d.slot = e.slot) (hport : d.port = e.port)
    (ht : ∀ j, t.entry j = if k = j then some d else s.entry j) (j : EntryNo) : t.boundAt j = s.boundAt j := by
  rw [State.boundAt, ht]
  split
  next h => rw [← h, State.boundAt, he, Option.map_some, Option.map_some, hslot, hport]
  next => rfl

/-! ### What a move does to the bindings -/

theorem Claim.phase_of_settled {c d : Claim} (h : c.settled = some d) : d.phase = .live := by
  obtain ⟨owner, space, base, size, phase, inFlight⟩ := c
  cases phase with
  | reshaping b z =>
    obtain rfl := Option.some.inj h
    rfl
  | live | draining | orphaned => simp [Claim.settled] at h

theorem Claim.elim_inFlight_settled (c : Claim) : c.settled.elim 0 Claim.inFlight = 0 := by
  cases h : c.settled with
  | none => rfl
  | some d => exact Claim.inFlight_of_settled h

theorem Claim.port_of_owner {c d : Claim} (h : d.owner = c.owner) : d.port = c.port := by
  simp only [Claim.port, h]

theorem Claim.inFlight_lowered (c : Claim) : c.lowered.elim 0 Claim.inFlight = c.inFlight - 1 := by
  unfold Claim.lowered
  split
  next h =>
    rw [Claim.elim_inFlight_settled]
    exact h.2.symm
  next => rfl

/-- A claim that has another access in flight stays on its port as one is gone. -/
theorem Claim.port_lowered {c : Claim} (h : c.inFlight - 1 ≠ 0) : c.lowered.bind Claim.port = c.port := by
  rw [Claim.lowered, if_neg (fun hlast => h hlast.2)]
  rfl

/-- An entry is freed, and its claim counts one fewer (R5, R73). -/
theorem Bound.freed (h : Bound s) {k : EntryNo} {e : Entry} (he : s.entry k = some e)
    (hentry : ∀ j, t.entry j = if k = j then none else s.entry j)
    (hclaim : ∀ m, t.claim m = if e.slot = m then (s.claim e.slot).bind Claim.lowered else s.claim m) : Bound t := by
  obtain ⟨hflight, hbinding⟩ := h
  obtain ⟨c, hc, hport⟩ := Option.bind_eq_some_iff.mp (hbinding k e he)
  rw [inFlightLaw_iff] at hflight
  have hcount (n : SlotNo) : t.inFlightAt n = t.boundEntries n := by
    have hbound := boundEntries_freed he hentry n
    have hn := hflight n
    rw [State.inFlightAt, hclaim]
    split
    next hslot =>
      subst hslot
      rw [hc, Option.bind_some, Claim.inFlight_lowered]
      simp only [State.inFlightAt, hc, Option.elim_some] at hn
      simp only [BEq.rfl, Bool.toNat_true] at hbound
      omega
    next hslot =>
      rw [show (e.slot == n) = false by simpa using hslot] at hbound
      simpa [State.inFlightAt, hbound] using hn
  refine ⟨(inFlightLaw_iff t).mpr hcount, fun j d hd => ?_⟩
  have hpos := State.boundEntries_pos hd
  rw [hentry] at hd
  split at hd
  next => simp at hd
  next =>
    have hold := hbinding j d hd
    rw [← hcount, State.inFlightAt, hclaim] at hpos
    rw [hclaim]
    split at hpos
    next hslot =>
      rw [if_pos hslot, hc, Option.bind_some, Claim.port_lowered]
      · rwa [← hslot, hc] at hold
      · rw [hc, Option.bind_some, Claim.inFlight_lowered] at hpos
        exact hpos.ne'
    next hslot => rwa [if_neg hslot]

/-- An entry is created for a claim of its port, which counts one more (R5, R56). -/
theorem Bound.created (h : Bound s) {k : EntryNo} {e : Entry} {c : Claim} (hk : s.entry k = none) (hc : s.claim e.slot = some c)
    (hport : c.port = some e.port) (hentry : ∀ j, t.entry j = if k = j then some e else s.entry j)
    (hclaim : ∀ m, t.claim m = if e.slot = m then some { c with inFlight := c.inFlight + 1 } else s.claim m) : Bound t := by
  obtain ⟨hflight, hbinding⟩ := h
  rw [inFlightLaw_iff] at hflight
  refine ⟨(inFlightLaw_iff t).mpr fun n => ?_, fun j d hd => ?_⟩
  · have hn := hflight n
    rw [boundEntries_created hk hentry, State.inFlightAt, hclaim]
    split
    next hslot =>
      subst hslot
      simp only [State.inFlightAt, hc, Option.elim_some] at hn
      simp [hn]
    next hslot =>
      rw [show (e.slot == n) = false by simpa using hslot]
      exact hn
  · have hpart : (t.claim d.slot).bind Claim.port = (s.claim d.slot).bind Claim.port := by
      rw [hclaim]
      split
      next hslot =>
        rw [← hslot, hc]
        rfl
      next => rfl
    rw [hpart]
    rw [hentry] at hd
    split at hd
    next =>
      obtain rfl := Option.some.inj hd
      rw [hc]
      exact hport
    next => exact hbinding j d hd

theorem Bound.not_bound {n : SlotNo} (h : Bound s) (hrest : s.inFlightAt n = 0) : ∀ k e, s.entry k = some e → e.slot ≠ n := by
  intro k e he hslot
  have hpos := State.boundEntries_pos he
  rw [hslot, ← (inFlightLaw_iff s).mp h.1 n, hrest] at hpos
  exact absurd hpos (lt_irrefl 0)

/-- A board claim of a port with no entry has nothing in flight. -/
theorem Bound.inFlight_of_noEntryOf (h : Bound s) {n : SlotNo} {c : Claim} {p : Port} (hc : s.claim n = some c)
    (hboard : c.isBoardOf p = true) (hnone : NoEntryOf s p) : c.inFlight = 0 := by
  rw [h.inFlight_eq hc, State.boundEntries_eq, List.countP_eq_zero]
  intro k _ hk
  cases he : s.entry k with
  | none => simp [he] at hk
  | some e =>
    obtain rfl : e.slot = n := by simpa [he] using hk
    have hport := h.2 k e he
    obtain ⟨handle, y, a, howner⟩ := (c.isBoardOf_iff p).mp hboard
    rw [hc, Option.bind_some, Claim.port, howner] at hport
    exact hnone k e he (Option.some.inj hport).symm

/-! ### The law of orphans, in the scope of a chain (R140) -/

/-- A port on its way out of a session may have orphans whose entries still end. -/
def Scope.spares (o : Scope) (c : Claim) : Prop :=
  ∃ p, o = .closing p ∧ c.isBoardOf p = true

/-- R140, but for the orphans that the scope spares. -/
def OrphansRest (o : Scope) (s : State) : Prop :=
  ∀ n c, s.claim n = some c → c.phase = .orphaned → ¬ o.spares c → c.inFlight = 0

def BoundIn (o : Scope) (s : State) : Prop :=
  Bound s ∧ OrphansRest o s

theorem not_spares_whole (c : Claim) : ¬ Scope.whole.spares c := by
  simp [Scope.spares]

theorem boundIn_whole (s : State) : BoundIn .whole s ↔ BoundLaw s := by
  refine ⟨fun ⟨⟨hflight, hbinding⟩, hrest⟩ => ⟨hflight, hbinding, fun n c hc h => hrest n c hc h (not_spares_whole c)⟩,
    fun ⟨hflight, hbinding, hrest⟩ => ⟨⟨hflight, hbinding⟩, fun n c hc h _ => hrest n c hc h⟩⟩

/-- Every orphan of `t` was one of `s`, of the same owner and with no fewer accesses in flight. -/
theorem OrphansRest.of_old (h : OrphansRest o s)
    (hold : ∀ n d, t.claim n = some d → d.phase = .orphaned →
      ∃ c, s.claim n = some c ∧ c.phase = .orphaned ∧ d.owner = c.owner ∧ d.inFlight ≤ c.inFlight) : OrphansRest o t := by
  intro n d hd hphase hspare
  obtain ⟨c, hc, hcphase, howner, hle⟩ := hold n d hd hphase
  have hrest := h n c hc hcphase fun ⟨p, ho, hboard⟩ => hspare ⟨p, ho, (Claim.isBoardOf_of_owner howner p).trans hboard⟩
  omega

theorem OrphansRest.same (h : OrphansRest o s) (hclaim : ∀ n, t.claim n = s.claim n) : OrphansRest o t :=
  h.of_old fun n d hd hphase => ⟨d, hclaim n ▸ hd, hphase, rfl, le_rfl⟩

/-- One slot is written with no claim, or with one that is no orphan. -/
theorem OrphansRest.setClaim (h : OrphansRest o s) {n : SlotNo} {d : Option Claim} (hclaim : ∀ m, t.claim m = if n = m then d else s.claim m)
    (hphase : ∀ c, d = some c → c.phase ≠ .orphaned) : OrphansRest o t := by
  refine h.of_old fun m c hc horphan => ?_
  rw [hclaim] at hc
  split at hc
  · exact absurd horphan (hphase c hc)
  · exact ⟨c, hc, horphan, rfl, le_rfl⟩

theorem OrphansRest.lowered (h : OrphansRest o s) {n : SlotNo}
    (hclaim : ∀ m, t.claim m = if n = m then (s.claim n).bind Claim.lowered else s.claim m) : OrphansRest o t := by
  refine h.of_old fun m d hd horphan => ?_
  rw [hclaim] at hd
  split at hd
  next hm =>
    obtain ⟨c, hc, hlowered⟩ := Option.bind_eq_some_iff.mp hd
    unfold Claim.lowered at hlowered
    split at hlowered
    · simp [Claim.phase_of_settled hlowered] at horphan
    · obtain rfl := Option.some.inj hlowered
      exact ⟨c, hm ▸ hc, horphan, rfl, Nat.sub_le ..⟩
  next => exact ⟨d, hd, horphan, rfl, le_rfl⟩

/-! ### Every move keeps the law in its scope -/

theorem Claim.port_of_board {c : Claim} {p : Port} (h : c.isBoardOf p = true) : c.port = some p := by
  obtain ⟨k, y, a, howner⟩ := (c.isBoardOf_iff p).mp h
  simp only [Claim.port, howner]

theorem State.inFlightAt_map {f : Claim → Claim} (hclaim : ∀ n, t.claim n = (s.claim n).map f)
    (hf : ∀ c, (f c).inFlight = c.inFlight) (n : SlotNo) : t.inFlightAt n = s.inFlightAt n := by
  rw [State.inFlightAt, State.inFlightAt, hclaim]
  cases s.claim n with
  | none => rfl
  | some c => exact hf c

theorem port_map {f : Claim → Claim} (hf : ∀ c, (f c).owner = c.owner) (c : Option Claim) :
    (c.map f).bind Claim.port = c.bind Claim.port := by
  cases c with
  | none => rfl
  | some c => exact Claim.port_of_owner (hf c)

theorem Claim.inFlight_orphaned (c : Claim) (p : Port) : (c.orphaned p).inFlight = c.inFlight := by
  rw [c.orphaned_frame p]

theorem Claim.inFlight_revived (c : Claim) (p : Port) : (c.revived p).inFlight = c.inFlight := by
  unfold Claim.revived
  split <;> rfl

/-- The claims are rewritten one by one, each under its owner and with its count. -/
theorem Bound.map (h : Bound s) {f : Claim → Claim} (hentry : ∀ k, t.entry k = s.entry k) (hclaim : ∀ n, t.claim n = (s.claim n).map f)
    (hcount : ∀ c, (f c).inFlight = c.inFlight) (howner : ∀ c, (f c).owner = c.owner) : Bound t :=
  h.congr (fun k => by rw [State.boundAt, hentry]; rfl) (State.inFlightAt_map hclaim hcount)
    fun n _ => by rw [hclaim, port_map howner]

theorem boundIn_orphaned {p : Port} (h : BoundIn (.closing p) s) : BoundIn (.closing p) (s.orphaned p) := by
  obtain ⟨hbound, hrest⟩ := h
  refine ⟨hbound.map (fun _ => rfl) (s.claim_orphaned p) (fun c => c.inFlight_orphaned p)
    fun c => (c.within_orphaned p).owner, fun n d hd hphase hspare => ?_⟩
  rw [State.claim_orphaned] at hd
  obtain ⟨c, hc, rfl⟩ := Option.map_eq_some_iff.mp hd
  have hboard : c.isBoardOf p = false := by
    by_contra hb
    exact hspare ⟨p, rfl, (c.isBoardOf_orphaned p p).trans (by simpa using hb)⟩
  have hsame : c.orphaned p = c := by simp [Claim.orphaned, hboard]
  rw [hsame] at hphase hspare ⊢
  exact hrest n c hc hphase hspare

theorem boundIn_revived {p : Port} (h : BoundIn o s) : BoundIn o (s.revived p) := by
  obtain ⟨hbound, hrest⟩ := h
  refine ⟨hbound.map (fun _ => rfl) (s.claim_revived p) (fun c => c.inFlight_revived p) fun c => (c.within_revived p).owner,
    hrest.of_old fun n d hd hphase => ?_⟩
  rw [State.claim_revived] at hd
  obtain ⟨c, hc, rfl⟩ := Option.map_eq_some_iff.mp hd
  refine ⟨c, hc, ?_, (c.within_revived p).owner, (c.inFlight_revived p).le⟩
  unfold Claim.revived at hphase
  split at hphase
  · simp at hphase
  · exact hphase

theorem boundIn_same (h : BoundIn o s) (hentry : ∀ k, t.boundAt k = s.boundAt k) (hclaim : ∀ n, t.claim n = s.claim n) : BoundIn o t :=
  ⟨h.1.same hentry hclaim, h.2.same hclaim⟩

/-- A slot is written with a claim that is no orphan, under the port and the count of the one before. -/
theorem boundIn_setClaim (h : BoundIn o s) {n : SlotNo} {d : Option Claim} (hentry : ∀ k, t.entry k = s.entry k)
    (hclaim : ∀ m, t.claim m = if n = m then d else s.claim m) (hcount : d.elim 0 Claim.inFlight = s.inFlightAt n)
    (hport : s.inFlightAt n ≠ 0 → d.bind Claim.port = (s.claim n).bind Claim.port) (hphase : ∀ c, d = some c → c.phase ≠ .orphaned) :
    BoundIn o t :=
  ⟨h.1.setClaim hentry hclaim hcount hport, h.2.setClaim hclaim hphase⟩

theorem State.inFlightAt_some {n : SlotNo} {c : Claim} (hc : s.claim n = some c) : s.inFlightAt n = c.inFlight := by
  simp [State.inFlightAt, hc]

theorem State.inFlightAt_none {n : SlotNo} (hc : s.claim n = none) : s.inFlightAt n = 0 := by
  simp [State.inFlightAt, hc]

/-- A claim that is retired at once has nothing in flight (R12, R140). -/
theorem BoundIn.inFlight_retire (h : BoundIn o s) {n : SlotNo} {c : Claim} {p : Port} (hc : s.claim n = some c)
    (hboard : c.isBoardOf p = true) (hrest : (o = .whole ∧ c.phase = .orphaned) ∨ NoEntryOf s p) : c.inFlight = 0 := by
  rcases hrest with ⟨rfl, hphase⟩ | hnone
  · exact h.2 n c hc hphase (not_spares_whole c)
  · exact h.1.inFlight_of_noEntryOf hc hboard hnone

theorem Move.boundIn (h : Move o s t) (hs : BoundIn o s) : BoundIn o t := by
  cases h with
  | frame h => exact boundIn_same hs (fun k => by rw [State.boundAt, h.entry]; rfl) h.claim
  | record | halt | shut | holdStart | holdStop | setQuota | setHold | freeTags | clearList | setTiming =>
    exact boundIn_same hs (fun _ => rfl) fun _ => rfl
  | @setPool _ sp q => cases sp <;> exact boundIn_same hs (fun _ => rfl) fun _ => rfl
  | setIdle =>
    split
    · exact boundIn_same hs (fun k => by rw [State.boundAt, State.entry_stopIdleTimers]; rfl) fun n => State.claim_stopIdleTimers _ n
    · exact boundIn_same hs (fun _ => rfl) fun _ => rfl
  | orphan => exact boundIn_orphaned hs
  | opening => exact boundIn_same (boundIn_revived hs) (fun _ => rfl) fun _ => rfl
  | @admitHost _ n w sp b z hn hfree =>
    exact boundIn_setClaim hs (fun _ => rfl) (fun m => s.claim_setClaim n m _) (s.inFlightAt_none hfree).symm
      (fun h => absurd (s.inFlightAt_none hfree) h) fun c hc => by simp [← Option.some.inj hc, newClaim]
  | @admitBoard _ n p h a sp b z hn hfree =>
    exact boundIn_setClaim hs (fun _ => rfl) (fun m => s.claim_setClaim n m _) (s.inFlightAt_none hfree).symm
      (fun h => absurd (s.inFlightAt_none hfree) h) fun c hc => by simp [← Option.some.inj hc, newClaim]
  | @retire _ _ n c p hc hboard hrest =>
    have hzero : s.inFlightAt n = 0 := (State.inFlightAt_some hc).trans (hs.inFlight_retire hc hboard hrest)
    exact boundIn_setClaim hs (fun _ => rfl) (fun m => s.claim_setClaim n m none) hzero.symm (fun h => absurd hzero h)
      fun c hc => by simp at hc
  | @reshape _ n c b z hown hc =>
    exact boundIn_setClaim hs (fun _ => rfl) (fun m => s.claim_setClaim n m _) (State.inFlightAt_some hc).symm
      (fun _ => by rw [hc]; rfl) fun d hd => by simp [← Option.some.inj hd]
  | @drain _ n c cause hown hc =>
    exact boundIn_setClaim hs (fun _ => rfl) (fun m => s.claim_setClaim n m _) (State.inFlightAt_some hc).symm
      (fun _ => by rw [hc]; rfl) fun d hd => by simp [← Option.some.inj hd]
  | @settle _ _ n c hc hmotion hrest =>
    have hzero : s.inFlightAt n = 0 := (State.inFlightAt_some hc).trans hrest
    exact boundIn_setClaim hs (fun k => s.entry_afterSettle n c k) (fun m => s.claim_afterSettle n m c)
      (c.elim_inFlight_settled.trans hzero.symm) (fun h => absurd hzero h) fun d hd => by simp [Claim.phase_of_settled hd]
  | @release _ _ k e tags flags he =>
    have hclaim (m : SlotNo) := State.claim_lowered ((s.setPort e.port ((s.port e.port).left k tags flags)).setEntry k none) e.slot m
    refine ⟨hs.1.freed he (fun j => ?_) hclaim, hs.2.lowered hclaim⟩
    rw [State.entry_lowered, State.entry_setEntry]
    rfl
  | @create _ k e n c p a hk hc hlive howner r kind sp he =>
    subst he
    have hport : c.port = some p := by
      rcases howner with h | ⟨_, _, h⟩ <;> simp only [Claim.port, h]
    refine ⟨hs.1.created (e := newEntry r kind sp n p a) hk hc hport (fun j => ?_) fun m => ?_, hs.2.setClaim (n := n)
      (fun m => s.claim_setClaim n m _) fun d hd => by simp [← Option.some.inj hd, hlive]⟩
    · exact s.entry_setEntry k j _
    · exact s.claim_setClaim n m _
  | @issue _ k e p u hlist he =>
    exact boundIn_same hs (boundAt_setEntry (d := e.issueNext u s.completionTimeout) he rfl rfl fun j => s.entry_setEntry k j _)
      fun _ => rfl
  | @complete _ k e i u st d flags he hpiece hd =>
    exact boundIn_same hs (boundAt_setEntry he hd.slot hd.port fun j => s.entry_setEntry k j _) fun _ => rfl
  | @disown _ k e he =>
    exact boundIn_same hs (boundAt_setEntry (d := { e with owes := none }) he rfl rfl fun j => s.entry_setEntry k j _) fun _ => rfl

/-! ### Stages, and the laws that hold in the scope of one -/

@[simp] theorem State.entry_retireWhere (s : State) (p : Port) (picks : Claim → Bool) (k : EntryNo) :
    (s.retireWhere p picks).entry k = s.entry k := by
  rw [State.retireWhere_eq_freed]
  unfold State.freed
  dsimp only
  split <;> rfl

@[simp] theorem State.entry_holdOrphans (s : State) (p : Port) (k : EntryNo) : (s.holdOrphans p).entry k = s.entry k := by
  unfold State.holdOrphans
  split_ifs
  · rfl
  · rw [State.entry_raisePort, State.entry_retireWhere]
  · rfl

@[simp] theorem State.entry_endLinkCommands (s : State) (p : Port) (k : EntryNo) : (s.endLinkCommands p).entry k = s.entry k := by
  simp only [State.endLinkCommands, State.entry_reportEnd]

theorem noEntryOf_congr {p : Port} (hs : NoEntryOf s p) (h : ∀ k, t.entry k = s.entry k) : NoEntryOf t p :=
  fun k e he => hs k e (h k ▸ he)

theorem noEntryOf_linkLoss (s : State) (p : Port) : NoEntryOf (s.linkLoss p) p := by
  rw [State.linkLoss_eq_sessionLost]
  refine noEntryOf_congr (noEntryOf_dropEntries (s.sessionLost p) p) fun k => ?_
  rw [State.entry_endLinkCommands, State.entry_raisePort, State.entry_holdOrphans]

theorem noEntryOf_closePort (s : State) (p : Port) (st : PortState) (signalling : Timer) :
    NoEntryOf (s.closePort p st signalling) p := by
  refine noEntryOf_congr (noEntryOf_dropEntries (s.sessionClosed p st signalling) p) fun k => ?_
  exact State.entry_retireWhere _ p _ k

/-- A law of every scope, kept by every move there, and mended at the end of each stage. -/
theorem Stage.keeps_in_scope {P : Scope → State → Prop} {L : State → Prop} (hin : ∀ (o : Scope) (u : State), L u → P o u)
    (hmove : ∀ (o : Scope) (u v : State), Move o u v → P o u → P o v) (hwhole : ∀ u : State, P .whole u → L u)
    (hrealign : ∀ (u : State) (p : Port), L u → P (.realigning p) (u.enterRealign p) → L (u.enterRealign p))
    (hlose : ∀ (u : State) (p : Port), L u → P (.closing p) (u.linkLoss p) → L (u.linkLoss p))
    (hclose : ∀ (u : State) (p : Port) (st : PortState) (signalling : Timer), L u →
      P (.closing p) (u.closePort p st signalling) → L (u.closePort p st signalling))
    (hdrain : ∀ (u : State) (n : SlotNo) (c : Claim) (cause : RetireCause),
      P (.moving n) (u.startDrain n c cause) → L (u.startDrain n c cause))
    (hreshape : ∀ (u : State) (n : SlotNo) (c : Claim) (b z : Nat),
      P (.moving n) (u.acceptReshape n c b z) → L (u.acceptReshape n c b z))
    (hfresh : ∀ u : State, Fresh u → L u) (h : Stage s t) (hs : L s) : L t := by
  have keeps (o : Scope) (u : State) (hmoves : Moves o s u) : P o u := hmoves.keeps (hmove o) (hin o s hs)
  cases h with
  | move h => exact hwhole t (keeps .whole t h.moves)
  | @realign p hlinked => exact hrealign s p hs (keeps _ _ (moves_enterRealign hlinked))
  | @lose p => exact hlose s p hs (keeps _ _ (moves_linkLoss s p))
  | @close p st signalling hst => exact hclose s p st signalling hs (keeps _ _ (moves_closePort s p hst signalling))
  | @drain n c cause hown hc hlinked => exact hdrain s n c cause (keeps _ _ (moves_startDrain hown hc hlinked))
  | @reshape n c b z hown hc hroom hlinked => exact hreshape s n c b z (keeps _ _ (moves_acceptReshape hown hc hroom hlinked))
  | fresh h => exact hfresh t h

/-! ### The law of the counts at the end of a stage -/

/-- With no entry of the port left, its orphans are at rest again. -/
theorem boundLaw_of_closing {p : Port} (hs : BoundIn (.closing p) s) (hnone : NoEntryOf s p) : BoundLaw s := by
  obtain ⟨hbound, hrest⟩ := hs
  refine ⟨hbound.1, hbound.2, fun n c hc hphase => ?_⟩
  by_cases hboard : c.isBoardOf p = true
  · exact hbound.inFlight_of_noEntryOf hc hboard hnone
  · refine hrest n c hc hphase fun ⟨q, hq, hcq⟩ => hboard ?_
    obtain rfl := Scope.closing.inj hq
    exact hcq

theorem boundLaw_of_not_closing (ho : ∀ p, o ≠ .closing p) (hs : BoundIn o s) : BoundLaw s := by
  obtain ⟨hbound, hrest⟩ := hs
  exact ⟨hbound.1, hbound.2, fun n c hc hphase => hrest n c hc hphase fun ⟨p, hp, _⟩ => ho p hp⟩

theorem boundIn_of_boundLaw (o : Scope) (hs : BoundLaw s) : BoundIn o s := by
  obtain ⟨hflight, hbinding, hrest⟩ := hs
  exact ⟨⟨hflight, hbinding⟩, fun n c hc hphase _ => hrest n c hc hphase⟩

theorem Fresh.entry (h : Fresh t) (k : EntryNo) : t.entry k = none := by
  simp [State.entry, h.entries]

theorem Fresh.boundLaw (h : Fresh t) : BoundLaw t := by
  refine ⟨(inFlightLaw_iff t).mpr fun n => ?_, fun k e he => by simp [h.entry] at he, fun n c hc hphase => ?_⟩
  · have hnone : t.boundEntries n = 0 := by
      rw [State.boundEntries_eq, List.countP_eq_zero]
      intro k _
      simp [h.entry]
    rw [hnone, State.inFlightAt, h.claim]
    split <;> rfl
  · obtain ⟨-, rfl⟩ := h.claim_some hc
    simp [windowClaim] at hphase

theorem Stage.boundLaw (h : Stage s t) : BoundLaw s → BoundLaw t :=
  h.keeps_in_scope (P := BoundIn) (fun o _ => boundIn_of_boundLaw o) (fun _ _ _ => Move.boundIn)
    (fun u => (boundIn_whole u).mp) (fun _ _ _ => boundLaw_of_not_closing (by simp))
    (fun u p _ hu => boundLaw_of_closing hu (noEntryOf_linkLoss u p))
    (fun u p st signalling _ hu => boundLaw_of_closing hu (noEntryOf_closePort u p st signalling))
    (fun _ _ _ _ => boundLaw_of_not_closing (by simp)) (fun _ _ _ _ _ => boundLaw_of_not_closing (by simp)) fun _ => Fresh.boundLaw

/-- Settles O55: each move changes a claim's count with the entries bound to it, and orphans rest once their port's entries have ended. -/
theorem stepKeepsInFlightCounts : Obligations.StepKeepsInFlightCounts :=
  fun _ _ hs hstep => step_keeps (fun _ _ => Stage.boundLaw) hstep hs

end Sys2Proof.Machine
end

section
/-! PROOFS. The laws of board claims against their port: their states, the one identity, and that a claim in motion has an access in
flight. -/

namespace Sys2Proof.Machine

open Sys2Proof

variable {s t : State} {o : Scope}

/-! ### The laws in the scope of a chain -/

/-- R137, R139: the state of a board claim against the record of its port. -/
def Claim.StateOk (c : Claim) (x : PortRecord) : Prop :=
  if c.phase = .orphaned then x.state.linked = false ∧ x.holdTimer ≠ none else x.state.linked = true ∧ x.identity = c.identity

/-- The law of the states of board claims, but for a port whose session is on its way out. -/
def BoardStateIn (o : Scope) (s : State) : Prop :=
  ∀ n c, s.claim n = some c → ∀ p, c.isBoardOf p = true → o ≠ .closing p → c.StateOk (s.port p)

/-- The law of claims in motion, but for a claim on its way into motion. -/
def InMotionIn (o : Scope) (s : State) : Prop :=
  ∀ n c, s.claim n = some c → o ≠ .moving n → c.phase.inMotion = true → 0 < c.inFlight

structure BoardsIn (o : Scope) (s : State) : Prop where
  bound : BoundIn o s
  session : SessionLaw s
  states : BoardStateIn o s
  identity : OneIdentityLaw s
  motion : InMotionIn o s

theorem Claim.identity_of_owner {c d : Claim} (h : d.owner = c.owner) : d.identity = c.identity := by
  simp only [Claim.identity, h]

/-! ### The states of board claims -/

/-- A record in which the link, the hold timer and the identity stand. -/
structure SameSession (x y : PortRecord) : Prop where
  linked : y.state.linked = x.state.linked
  holdTimer : y.holdTimer = x.holdTimer
  identity : y.identity = x.identity

theorem SameSession.refl (x : PortRecord) : SameSession x x :=
  ⟨rfl, rfl, rfl⟩

/-- A claim under the same owner, an orphan if and only if the other is, on a record with the same session. -/
theorem Claim.StateOk.congr {c d : Claim} {x y : PortRecord} (h : c.StateOk x) (howner : d.owner = c.owner)
    (hphase : d.phase = .orphaned ↔ c.phase = .orphaned) (hport : SameSession x y) : d.StateOk y := by
  simpa only [Claim.StateOk, hphase, hport.linked, hport.holdTimer, hport.identity, Claim.identity_of_owner howner] using h

theorem BoardStateIn.of_old (h : BoardStateIn o s)
    (hclaim : ∀ n d, t.claim n = some d → d.isBoard = true →
      ∃ c, s.claim n = some c ∧ d.owner = c.owner ∧ (d.phase = .orphaned ↔ c.phase = .orphaned))
    (hport : ∀ p, o ≠ .closing p → SameSession (s.port p) (t.port p)) : BoardStateIn o t := by
  intro n d hd p hboard hp
  obtain ⟨k, y, a, hown⟩ := (d.isBoardOf_iff p).mp hboard
  obtain ⟨c, hc, howner, hphase⟩ := hclaim n d hd (by simp [Claim.isBoard, hown])
  exact (h n c hc p ((Claim.isBoardOf_of_owner howner p).symm.trans hboard) hp).congr howner hphase (hport p hp)

theorem BoardStateIn.ports (h : BoardStateIn o s) (hclaim : ∀ n, t.claim n = s.claim n)
    (hport : ∀ p, o ≠ .closing p → SameSession (s.port p) (t.port p)) : BoardStateIn o t :=
  h.of_old (fun n d hd _ => ⟨d, hclaim n ▸ hd, rfl, Iff.rfl⟩) hport

theorem BoardStateIn.setClaim (h : BoardStateIn o s) {n : SlotNo} {d : Option Claim}
    (hclaim : ∀ m, t.claim m = if n = m then d else s.claim m)
    (hold : ∀ e, d = some e → e.isBoard = true →
      ∃ c, s.claim n = some c ∧ e.owner = c.owner ∧ (e.phase = .orphaned ↔ c.phase = .orphaned))
    (hport : ∀ p, o ≠ .closing p → SameSession (s.port p) (t.port p)) : BoardStateIn o t := by
  refine h.of_old (fun m e he hboard => ?_) hport
  rw [hclaim] at he
  split at he
  next hm => exact hm ▸ hold e he hboard
  next => exact ⟨e, he, rfl, Iff.rfl⟩

theorem sameSession_setPort {p : Port} {y : PortRecord} (h : SameSession (s.port p) y) (q : Port) :
    SameSession (s.port q) ((s.setPort p y).port q) := by
  rw [State.port_setPort]
  split
  next hq => exact hq ▸ h
  next => exact .refl _

theorem RecordKept.sameSession {d : Nat} {x y : PortRecord} (h : RecordKept d x y) : SameSession x y :=
  ⟨h.linked, h.holdTimer, h.identity⟩

theorem sameSession_afterSettle (s : State) (n : SlotNo) (c : Claim) (p : Port) :
    SameSession (s.port p) ((s.afterSettle n c).port p) := by
  obtain ⟨count, marks, hport⟩ := s.port_afterSettle n c p
  rw [hport]
  exact ⟨rfl, rfl, rfl⟩

theorem sameSession_lowered (s : State) (n : SlotNo) (p : Port) : SameSession (s.port p) ((s.lowered n).port p) := by
  obtain ⟨count, marks, hport⟩ := s.port_lowered n p
  rw [hport]
  exact ⟨rfl, rfl, rfl⟩

theorem SameSession.trans {x y z : PortRecord} (h : SameSession x y) (h' : SameSession y z) : SameSession x z :=
  ⟨h'.linked.trans h.linked, h'.holdTimer.trans h.holdTimer, h'.identity.trans h.identity⟩

theorem Phase.ne_orphaned_of_inMotion {ph : Phase} (h : ph.inMotion = true) : ph ≠ .orphaned := by
  rintro rfl
  simp [Phase.inMotion] at h

/-- What an access that is gone leaves of a claim: its owner, and whether it is an orphan. -/
theorem Claim.lowered_some {c d : Claim} (h : c.lowered = some d) : d.owner = c.owner ∧ (d.phase = .orphaned ↔ c.phase = .orphaned) := by
  unfold Claim.lowered at h
  split at h
  next hlast =>
    refine ⟨Claim.owner_of_settled h, ?_⟩
    simp [Claim.phase_of_settled h, Phase.ne_orphaned_of_inMotion hlast.1]
  next =>
    obtain rfl := Option.some.inj h
    exact ⟨rfl, Iff.rfl⟩

/-- A claim of a linked port, or of no board, is written under another phase, and neither is an orphan's. -/
theorem boardStateIn_phase {n : SlotNo} {c : Claim} {ph : Phase} (hs : BoardStateIn o s) (ho : ∀ p, o ≠ .closing p)
    (hc : s.claim n = some c) (hph : ph ≠ .orphaned)
    (hlinked : ∀ p, c.isBoardOf p = true → c.phase = .orphaned → (s.port p).state.linked = true) :
    BoardStateIn o (s.setClaim n (some { c with phase := ph })) := by
  refine hs.setClaim (fun m => s.claim_setClaim n m _) (fun e he hboard => ⟨c, hc, ?_⟩) fun p _ => .refl _
  obtain rfl := Option.some.inj he
  refine ⟨rfl, ⟨fun h => absurd h hph, fun horphan => ?_⟩⟩
  obtain ⟨p, k, y, a, hown⟩ : ∃ p k y a, c.owner = .board p k y a := by
    unfold Claim.isBoard at hboard
    cases howner : c.owner <;> simp [howner] at hboard ⊢
  have hcp : c.isBoardOf p = true := (c.isBoardOf_iff p).mpr ⟨k, y, a, hown⟩
  have hok := hs n c hc p hcp (ho p)
  rw [Claim.StateOk, if_pos horphan, hlinked p hcp horphan] at hok
  simp at hok

theorem boardStateIn_orphaned {p : Port} (hs : BoardStateIn (.closing p) s) : BoardStateIn (.closing p) (s.orphaned p) := by
  intro n d hd q hboard hq
  rw [State.claim_orphaned] at hd
  obtain ⟨c, hc, rfl⟩ := Option.map_eq_some_iff.mp hd
  rw [Claim.isBoardOf_orphaned] at hboard
  have hp : c.isBoardOf p = false := by
    by_contra h
    exact hq (congrArg Scope.closing (Claim.port_of_isBoardOf (by simpa using h) hboard))
  rw [show c.orphaned p = c by simp [Claim.orphaned, hp]]
  exact hs n c hc q hboard hq

/-- A session opens: the orphans of the port resume under its identity. -/
theorem boardStateIn_opening {p : Port} {y : PortRecord} {d : Nat} (hs : BoardStateIn .whole s) (h : RecordOpened d (s.port p) y)
    (horphans : ∀ n c, s.claim n = some c → c.isOrphanOf p = true → c.identity = y.identity) :
    BoardStateIn .whole ((s.revived p).setPort p y) := by
  intro n e he q hboard _
  rw [State.claim_setPort, State.claim_revived] at he
  obtain ⟨c, hc, rfl⟩ := Option.map_eq_some_iff.mp he
  rw [Claim.isBoardOf_revived] at hboard
  have hok := hs n c hc q hboard (by simp)
  rw [State.port_setPort]
  split
  next hq =>
    subst hq
    have hphase : c.phase = .orphaned := by
      by_contra hlive
      rw [Claim.StateOk, if_neg hlive, h.greet] at hok
      simp [PortState.linked] at hok
    have horphan : c.isOrphanOf p = true := (c.isOrphanOf_iff p).mpr ⟨hboard, hphase⟩
    rw [Claim.revived, if_pos horphan, Claim.StateOk, if_neg (by simp)]
    exact ⟨linked_of_state h.run rfl, (horphans n c hc horphan).symm⟩
  next hq =>
    have hother : c.isOrphanOf p = false := by
      by_contra horphan
      exact hq (Claim.port_of_isBoardOf ((c.isOrphanOf_iff p).mp (by simpa using horphan)).1 hboard)
    rw [Claim.revived, if_neg (by simp [hother])]
    exact hok

theorem boardStateIn_admitBoard {n : SlotNo} {p : Port} {h : Handle} {a : Attributes} {sp : Space} {b z : Nat}
    (hs : BoardStateIn o s) (hsession : SessionLaw s) (hrun : (s.port p).state = .run) :
    BoardStateIn o ((s.setClaim n (some (newClaim (.board p h ((s.port p).identity.getD 0) a) sp b z))).setPort p
      { s.port p with claimCount := (s.port p).claimCount + 1 }) := by
  have hports (q : Port) : SameSession (s.port q) (((s.setClaim n (some (newClaim (.board p h ((s.port p).identity.getD 0) a) sp b z))).setPort p
      { s.port p with claimCount := (s.port p).claimCount + 1 }).port q) :=
    sameSession_setPort (s := s.setClaim n _) (by exact ⟨rfl, rfl, rfl⟩) q
  intro m d hd q hboard hq
  rw [State.claim_setPort, State.claim_setClaim] at hd
  split at hd
  next =>
    obtain rfl := Option.some.inj hd
    obtain rfl : p = q := by simpa [newClaim, Claim.isBoardOf] using hboard
    have hlinked : (s.port p).state.linked = true := linked_of_state hrun rfl
    have hid := hsession p
    rw [if_pos hlinked] at hid
    obtain ⟨y, hy⟩ := Option.isSome_iff_exists.mp hid.1
    rw [Claim.StateOk, if_neg (by simp [newClaim]), (hports p).linked, (hports p).identity, hy]
    exact ⟨hlinked, rfl⟩
  next => exact (hs m d hd q hboard hq).congr rfl Iff.rfl (hports q)

theorem Move.boardStateIn (h : Move o s t) (hsession : SessionLaw s) (hs : BoardStateIn o s) : BoardStateIn o t := by
  cases h with
  | frame h => exact hs.ports h.claim fun p _ => h.port p ▸ .refl _
  | record h => exact hs.ports (fun _ => rfl) fun q _ => sameSession_setPort h.sameSession q
  | halt h => exact hs.ports (fun _ => rfl) fun q _ => sameSession_setPort h.sameSession q
  | @shut p y h =>
    refine hs.ports (fun _ => rfl) fun q hq => ?_
    rw [State.port_setPort_ne _ _ fun h => hq (congrArg Scope.closing h.symm)]
    exact .refl _
  | @holdStart p v =>
    refine hs.ports (fun _ => rfl) fun q hq => ?_
    rw [State.port_setPort_ne _ _ fun h => hq (congrArg Scope.closing h.symm)]
    exact .refl _
  | orphan => exact boardStateIn_orphaned hs
  | @holdStop _ _ p hnone =>
    intro n c hc q hboard hq
    have hok := hs n c hc q hboard hq
    rw [State.port_setPort]
    split
    next hp =>
      subst hp
      have hphase : c.phase ≠ .orphaned := fun horphan =>
        absurd (hnone n c hc) (by simp [Claim.isOrphanOf, hboard, horphan])
      rw [Claim.StateOk, if_neg hphase] at hok ⊢
      exact hok
    next => exact hok
  | opening h horphans => exact boardStateIn_opening hs h horphans
  | setQuota | setHold => exact hs.ports (fun _ => rfl) fun q _ => sameSession_setPort (by exact ⟨rfl, rfl, rfl⟩) q
  | freeTags | clearList => exact hs.ports (fun _ => rfl) fun q _ => sameSession_setPort (by exact ⟨rfl, rfl, rfl⟩) q
  | @setPool _ sp q => cases sp <;> exact hs.ports (fun _ => rfl) fun _ _ => .refl _
  | setTiming | disown => exact hs.ports (fun _ => rfl) fun _ _ => .refl _
  | setIdle =>
    split
    · refine hs.ports (fun n => State.claim_stopIdleTimers _ n) fun q _ => ?_
      rw [State.stopIdleTimers_port]
      exact ⟨rfl, rfl, rfl⟩
    · exact hs.ports (fun _ => rfl) fun _ _ => .refl _
  | @admitHost _ n w sp b z hn hfree howner =>
    refine hs.setClaim (fun m => s.claim_setClaim n m _) (fun e he hboard => ?_) fun _ _ => .refl _
    obtain rfl := Option.some.inj he
    rcases howner with rfl | ⟨p, a, rfl, -⟩ <;> simp [newClaim, Claim.isBoard] at hboard
  | admitBoard hn hfree hrun => exact boardStateIn_admitBoard hs hsession hrun
  | @retire _ _ n c p =>
    exact hs.setClaim (fun m => s.claim_setClaim n m none) (fun e he => by simp at he)
      fun q _ => sameSession_setPort (s := s.setClaim n none) (by exact ⟨rfl, rfl, rfl⟩) q
  | reshape _ hc _ hlinked => exact boardStateIn_phase hs (by simp) hc (by simp) fun p hp _ => hlinked p hp
  | drain _ hc hlinked => exact boardStateIn_phase hs (by simp) hc (by simp) hlinked
  | @settle _ _ n c hc hmotion =>
    refine hs.setClaim (fun m => s.claim_afterSettle n m c) (fun e he _ => ⟨c, hc, Claim.owner_of_settled he, ?_⟩)
      fun q _ => sameSession_afterSettle s n c q
    simp [Claim.phase_of_settled he, Phase.ne_orphaned_of_inMotion hmotion]
  | @release _ _ k e tags flags =>
    refine hs.setClaim (State.claim_lowered _ e.slot) (fun d hd _ => ?_)
      fun q _ => (sameSession_setPort (s := s) (y := (s.port e.port).left k tags flags) (by exact ⟨rfl, rfl, rfl⟩) q).trans
        (sameSession_lowered ((s.setPort e.port ((s.port e.port).left k tags flags)).setEntry k none) e.slot q)
    obtain ⟨c, hc, hlowered⟩ := Option.bind_eq_some_iff.mp hd
    obtain ⟨howner, hphase⟩ := Claim.lowered_some hlowered
    exact ⟨c, hc, howner, hphase⟩
  | @create _ k e n c p a hk hc =>
    refine hs.setClaim (fun m => s.claim_setClaim n m _) (fun e he _ => ⟨c, hc, ?_⟩)
      fun q _ => sameSession_setPort (s := (s.setEntry k _).setClaim n _) (by exact ⟨rfl, rfl, rfl⟩) q
    obtain rfl := Option.some.inj he
    exact ⟨rfl, Iff.rfl⟩
  | @issue _ k e p => exact hs.ports (fun _ => rfl) fun q _ => sameSession_setPort (s := s.setEntry k _) (by exact ⟨rfl, rfl, rfl⟩) q
  | @complete _ k e => exact hs.ports (fun _ => rfl) fun q _ => sameSession_setPort (s := s) (by exact ⟨rfl, rfl, rfl⟩) q

/-! ### One identity (R3) -/

theorem OneIdentityLaw.of_old (h : OneIdentityLaw s)
    (hold : ∀ n d, t.claim n = some d → ∃ c, s.claim n = some c ∧ d.owner = c.owner) : OneIdentityLaw t := by
  intro i j c d hc hd p hcp hdp
  obtain ⟨c', hc', hoc⟩ := hold i c hc
  obtain ⟨d', hd', hod⟩ := hold j d hd
  rw [Claim.identity_of_owner hoc, Claim.identity_of_owner hod]
  exact h i j c' d' hc' hd' p ((Claim.isBoardOf_of_owner hoc p).symm.trans hcp) ((Claim.isBoardOf_of_owner hod p).symm.trans hdp)

/-- A board claim of a port in RUN carries the identity of the port's session. -/
theorem identity_of_run (hs : BoardStateIn o s) {n : SlotNo} {c : Claim} {p : Port} (hc : s.claim n = some c) (hboard : c.isBoardOf p = true)
    (hp : o ≠ .closing p) (hrun : (s.port p).state = .run) : c.identity = (s.port p).identity := by
  have hok := hs n c hc p hboard hp
  have hlinked : (s.port p).state.linked = true := linked_of_state hrun rfl
  unfold Claim.StateOk at hok
  split at hok
  · rw [hlinked] at hok
    simp at hok
  · exact hok.2.symm

/-- The identity of a claim that is filled for a board: that of the session of its port. -/
theorem identity_newClaim (hsession : SessionLaw s) {w : Owner} {sp : Space} {b z : Nat} {p : Port}
    (hidentity : ∀ p h y a, w = .board p h y a → (s.port p).state = .run ∧ y = (s.port p).identity.getD 0)
    (hboard : (newClaim w sp b z).isBoardOf p = true) :
    (s.port p).state = .run ∧ (newClaim w sp b z).identity = (s.port p).identity := by
  obtain ⟨k, y, a, hown⟩ := (Claim.isBoardOf_iff _ p).mp hboard
  obtain rfl : w = .board p k y a := hown
  obtain ⟨hrun, rfl⟩ := hidentity p k y a rfl
  have hid := hsession p
  rw [if_pos (linked_of_state hrun rfl)] at hid
  obtain ⟨y, hy⟩ := Option.isSome_iff_exists.mp hid.1
  exact ⟨hrun, by simp [newClaim, Claim.identity, hy]⟩

theorem oneIdentityLaw_of_claimsStep (h : ClaimsStep o s t)
    (hsession : SessionLaw s) (hstate : BoardStateIn o s) (hs : OneIdentityLaw s) : OneIdentityLaw t := by
  cases h with
  | shrink h =>
    exact hs.of_old fun n d hd =>
      let ⟨c, hc, hwithin⟩ := (h n).within d hd
      ⟨c, hc, hwithin.owner⟩
  | @reshape n e b z hclaim hown he =>
    refine hs.of_old fun m d hd => ?_
    rw [hclaim, State.claim_setClaim] at hd
    split at hd
    next hm => exact ⟨e, hm ▸ he, by rw [← Option.some.inj hd]⟩
    next => exact ⟨d, hd, rfl⟩
  | @fill n w sp b z hwhole hclaim hn hfree hown hwidth hhandle hidentity hroom =>
    have hnew (m : SlotNo) (c : Claim) (hc : s.claim m = some c) (p : Port) (hcp : c.isBoardOf p = true)
        (hwp : (newClaim w sp b z).isBoardOf p = true) : c.identity = (newClaim w sp b z).identity := by
      obtain ⟨hrun, hid⟩ := identity_newClaim hsession hidentity hwp
      rw [hid]
      exact identity_of_run hstate hc hcp (by simp [hwhole]) hrun
    intro i j c d hc hd p hcp hdp
    rw [hclaim, State.claim_setClaim] at hc hd
    split at hc
    next =>
      obtain rfl := Option.some.inj hc
      split at hd
      next => rw [← Option.some.inj hd]
      next => exact (hnew j d hd p hdp hcp).symm
    next =>
      split at hd
      next =>
        obtain rfl := Option.some.inj hd
        exact hnew i c hc p hcp hdp
      next => exact hs i j c d hc hd p hcp hdp

/-! ### Claims in motion (R9, R11, R138) -/

theorem InMotionIn.of_old (h : InMotionIn o s)
    (hold : ∀ n d, t.claim n = some d → o ≠ .moving n → d.phase.inMotion = true →
      ∃ c, s.claim n = some c ∧ c.phase.inMotion = true ∧ c.inFlight ≤ d.inFlight) : InMotionIn o t := by
  intro n d hd hn hmotion
  obtain ⟨c, hc, hcmotion, hle⟩ := hold n d hd hn hmotion
  exact lt_of_lt_of_le (h n c hc hn hcmotion) hle

theorem InMotionIn.same (h : InMotionIn o s) (hclaim : ∀ n, t.claim n = s.claim n) : InMotionIn o t :=
  h.of_old fun n d hd _ hmotion => ⟨d, hclaim n ▸ hd, hmotion, le_rfl⟩

theorem InMotionIn.setClaim (h : InMotionIn o s) {n : SlotNo} {d : Option Claim} (hclaim : ∀ m, t.claim m = if n = m then d else s.claim m)
    (hnew : ∀ e, d = some e → o ≠ .moving n → e.phase.inMotion = true → 0 < e.inFlight) : InMotionIn o t := by
  intro m e he hm hmotion
  rw [hclaim] at he
  split at he
  next hnm => exact hnew e he (hnm ▸ hm) hmotion
  next => exact h m e he hm hmotion

theorem InMotionIn.map (h : InMotionIn o s) {f : Claim → Claim} (hclaim : ∀ n, t.claim n = (s.claim n).map f)
    (hcount : ∀ c, (f c).inFlight = c.inFlight) (hphase : ∀ c, (f c).phase.inMotion = true → c.phase.inMotion = true) :
    InMotionIn o t := by
  refine h.of_old fun n d hd _ hmotion => ?_
  rw [hclaim] at hd
  obtain ⟨c, hc, rfl⟩ := Option.map_eq_some_iff.mp hd
  exact ⟨c, hc, hphase c hmotion, (hcount c).ge⟩

theorem Claim.inMotion_orphaned {c : Claim} {p : Port} (h : (c.orphaned p).phase.inMotion = true) : c.phase.inMotion = true := by
  unfold Claim.orphaned at h
  split at h
  · split at h
    · simp [Phase.inMotion] at h
    · simp [Phase.inMotion] at h
    all_goals exact h
  · exact h

theorem Claim.inMotion_revived {c : Claim} {p : Port} (h : (c.revived p).phase.inMotion = true) : c.phase.inMotion = true := by
  unfold Claim.revived at h
  split at h
  · simp [Phase.inMotion] at h
  · exact h

theorem Claim.inFlight_pos_of_lowered {c d : Claim} (h : c.lowered = some d) (hmotion : d.phase.inMotion = true) : 0 < d.inFlight := by
  unfold Claim.lowered at h
  split at h
  next =>
    rw [Claim.phase_of_settled h] at hmotion
    simp [Phase.inMotion] at hmotion
  next hlast =>
    obtain rfl := Option.some.inj h
    exact Nat.pos_of_ne_zero fun hzero => hlast ⟨hmotion, hzero⟩

theorem Move.inMotionIn (h : Move o s t) (hs : InMotionIn o s) : InMotionIn o t := by
  cases h with
  | frame h => exact hs.same h.claim
  | record | halt | shut | holdStart | holdStop | setQuota | setHold | freeTags | clearList | setTiming | issue | complete | disown =>
    exact hs.same fun _ => rfl
  | @setPool _ sp q => cases sp <;> exact hs.same fun _ => rfl
  | setIdle =>
    split
    · exact hs.same fun n => State.claim_stopIdleTimers _ n
    · exact hs.same fun _ => rfl
  | @orphan _ p => exact hs.map (s.claim_orphaned p) (fun c => c.inFlight_orphaned p) fun _ => Claim.inMotion_orphaned
  | @opening _ p => exact hs.map (s.claim_revived p) (fun c => c.inFlight_revived p) fun _ => Claim.inMotion_revived
  | @admitHost _ n | @admitBoard _ n =>
    refine hs.setClaim (fun m => s.claim_setClaim n m _) fun e he _ hmotion => ?_
    simp [← Option.some.inj he, newClaim, Phase.inMotion] at hmotion
  | @retire _ _ n => exact hs.setClaim (fun m => s.claim_setClaim n m none) fun e he => by simp at he
  | @reshape _ n | @drain _ n => exact hs.setClaim (fun m => s.claim_setClaim n m _) fun e he hn => absurd rfl hn
  | @settle _ _ n c hc =>
    refine hs.setClaim (fun m => s.claim_afterSettle n m c) fun e he _ hmotion => ?_
    simp [Claim.phase_of_settled he, Phase.inMotion] at hmotion
  | @release _ _ k e =>
    refine hs.setClaim (State.claim_lowered _ e.slot) fun d hd _ hmotion => ?_
    obtain ⟨c, -, hlowered⟩ := Option.bind_eq_some_iff.mp hd
    exact Claim.inFlight_pos_of_lowered hlowered hmotion
  | @create _ k e n c p a hk hc hlive =>
    refine hs.setClaim (fun m => s.claim_setClaim n m _) fun d hd _ hmotion => ?_
    obtain rfl := Option.some.inj hd
    exact Nat.succ_pos _

/-! ### The laws together, in the scope of a chain and at its end -/

/-- The laws that the law of board claims rests on, and that law. -/
def Boards (s : State) : Prop :=
  BoundLaw s ∧ SessionLaw s ∧ BoardClaimLaw s

theorem boardsIn_of_boards (o : Scope) (hs : Boards s) : BoardsIn o s := by
  obtain ⟨hbound, hsession, hstate, hid, hmotion⟩ := hs
  exact ⟨boundIn_of_boundLaw o hbound, hsession, fun n c hc p hp _ => hstate n c hc p hp, hid, fun n c hc _ h => hmotion n c hc h⟩

theorem Move.boardsIn (h : Move o s t) (hs : BoardsIn o s) : BoardsIn o t :=
  ⟨h.boundIn hs.bound, h.sessionLaw hs.session, h.boardStateIn hs.session hs.states,
    oneIdentityLaw_of_claimsStep h.claimsStep hs.session hs.states hs.identity, h.inMotionIn hs.motion⟩

/-- At the end of a scope the laws hold again where the exempt port and the exempt claim have been seen to. -/
theorem boards_of_boardsIn (hs : BoardsIn o s) (hbound : BoundLaw s)
    (hstate : ∀ p, o = .closing p → ∀ n c, s.claim n = some c → c.isBoardOf p = true → c.StateOk (s.port p))
    (hmotion : ∀ n, o = .moving n → ∀ c, s.claim n = some c → c.phase.inMotion = true → 0 < c.inFlight) : Boards s := by
  refine ⟨hbound, hs.session, fun n c hc p hp => ?_, hs.identity, fun n c hc h => ?_⟩
  · by_cases ho : o = .closing p
    · exact hstate p ho n c hc hp
    · exact hs.states n c hc p hp ho
  · by_cases ho : o = .moving n
    · exact hmotion n ho c hc h
    · exact hs.motion n c hc ho h

/-! ### The end of link loss and of a session (R137 to R139) -/

/-- The port is not linked, and its board claims are ORPHANED or DRAINING. -/
structure SessionEnded (p : Port) (s : State) : Prop where
  unlinked : (s.port p).state.linked = false
  phases : ∀ n c, s.claim n = some c → c.isBoardOf p = true → c.phase = .orphaned ∨ ∃ cause, c.phase = .draining cause

theorem SessionEnded.of_old {p : Port} (h : SessionEnded p s) (hlinked : (t.port p).state.linked = (s.port p).state.linked)
    (hold : ∀ n d, t.claim n = some d → d.isBoardOf p = true →
      ∃ c, s.claim n = some c ∧ c.isBoardOf p = true ∧ d.phase = c.phase) : SessionEnded p t := by
  refine ⟨hlinked.trans h.unlinked, fun n d hd hboard => ?_⟩
  obtain ⟨c, hc, hcboard, hphase⟩ := hold n d hd hboard
  rw [hphase]
  exact h.phases n c hc hcboard

theorem SessionEnded.same {p : Port} (h : SessionEnded p s) (hlinked : (t.port p).state.linked = (s.port p).state.linked)
    (hclaim : ∀ n, t.claim n = s.claim n) : SessionEnded p t :=
  h.of_old hlinked fun n d hd hboard => ⟨d, hclaim n ▸ hd, hboard, rfl⟩

theorem linked_setPort {p : Port} {y : PortRecord} (h : y.state.linked = (s.port p).state.linked) (q : Port) :
    ((s.setPort p y).port q).state.linked = (s.port q).state.linked := by
  rw [State.port_setPort]
  split
  next hq => rw [h, hq]
  next => rfl

/-- A claim that leaves no claim but an ORPHANED or DRAINING one behind. -/
theorem sessionEnded_setClaim {p : Port} {n : SlotNo} {d : Option Claim} (h : SessionEnded p s)
    (hlinked : (t.port p).state.linked = (s.port p).state.linked) (hclaim : ∀ m, t.claim m = if n = m then d else s.claim m)
    (hold : ∀ e, d = some e → e.isBoardOf p = true → ∃ c, s.claim n = some c ∧ c.isBoardOf p = true ∧ e.phase = c.phase) :
    SessionEnded p t := by
  refine h.of_old hlinked fun m e he hboard => ?_
  rw [hclaim] at he
  split at he
  next hm => exact hm ▸ hold e he hboard
  next => exact ⟨e, he, hboard, rfl⟩

/-- A DRAINING claim that settles is FREE, so that none of a port whose session is over is LIVE again. -/
theorem settled_none_of_sessionEnded {p : Port} {n : SlotNo} {c : Claim} (h : SessionEnded p s) (hc : s.claim n = some c)
    (hboard : c.isBoardOf p = true) : c.settled = none := by
  rcases h.phases n c hc hboard with hphase | ⟨cause, hphase⟩ <;> simp only [Claim.settled, hphase]

theorem Move.sessionEnded {p : Port} (h : Move (.closing p) s t) (hs : SessionEnded p s) : SessionEnded p t := by
  cases h with
  | frame h => exact hs.same (by rw [h.port]) h.claim
  | record h => exact hs.same (linked_setPort h.linked p) fun _ => rfl
  | shut h => exact hs.same (by rw [State.port_setPort_self, h.unlinked, hs.unlinked]) fun _ => rfl
  | orphan =>
    refine ⟨hs.unlinked, fun n d hd hboard => ?_⟩
    rw [State.claim_orphaned] at hd
    obtain ⟨c, hc, rfl⟩ := Option.map_eq_some_iff.mp hd
    rw [Claim.isBoardOf_orphaned] at hboard
    rcases hs.phases n c hc hboard with hphase | ⟨cause, hphase⟩
    · exact .inl (by simp [Claim.orphaned, hboard, hphase])
    · exact .inr ⟨cause, by simp [Claim.orphaned, hboard, hphase]⟩
  | holdStart | holdStop | freeTags | clearList => exact hs.same (linked_setPort (by rfl) p) fun _ => rfl
  | @retire _ _ n =>
    exact sessionEnded_setClaim hs (linked_setPort (s := s.setClaim n none) (by rfl) p) (fun m => s.claim_setClaim n m none)
      fun e he => by simp at he
  | @settle _ _ n c hc =>
    refine sessionEnded_setClaim hs (sameSession_afterSettle s n c p).linked (fun m => s.claim_afterSettle n m c) fun e he hboard => ?_
    rw [settled_none_of_sessionEnded hs hc ((Claim.isBoardOf_of_owner (Claim.owner_of_settled he) p).symm.trans hboard)] at he
    simp at he
  | @release _ _ k e tags flags =>
    refine sessionEnded_setClaim hs ?_ (State.claim_lowered _ e.slot) fun d hd hboard => ?_
    · exact ((sameSession_lowered ((s.setPort e.port ((s.port e.port).left k tags flags)).setEntry k none) e.slot p).linked).trans
        (linked_setPort (s := s) (y := (s.port e.port).left k tags flags) (by rfl) p)
    · obtain ⟨c, hc, hlowered⟩ := Option.bind_eq_some_iff.mp hd
      have hcboard : c.isBoardOf p = true := (Claim.isBoardOf_of_owner (Claim.lowered_some hlowered).1 p).symm.trans hboard
      refine ⟨c, hc, hcboard, ?_⟩
      unfold Claim.lowered at hlowered
      split at hlowered
      · rcases hs.phases e.slot c hc hcboard with hphase | ⟨cause, hphase⟩ <;> simp [Claim.settled, hphase] at hlowered
      · rw [← Option.some.inj hlowered]

theorem sessionEnded_sessionLost (s : State) (p : Port) : SessionEnded p (s.sessionLost p) := by
  refine ⟨?_, fun n d hd hboard => ?_⟩
  · change ((s.setPort p ((s.port p).endSession .listen)).port p).state.linked = false
    rw [State.port_setPort_self]
    rfl
  · rw [State.sessionLost, State.claim_orphaned, State.claim_setPort] at hd
    obtain ⟨c, hc, rfl⟩ := Option.map_eq_some_iff.mp hd
    rw [Claim.isBoardOf_orphaned] at hboard
    unfold Claim.orphaned
    rw [if_pos hboard]
    split
    · exact .inl rfl
    · exact .inl rfl
    next hphase => exact .inr ⟨_, hphase⟩
    next hphase => exact .inl hphase

/-- An orphan that link loss leaves is held under the hold timer (R139). -/
theorem holdTimer_holdOrphans {p : Port} {n : SlotNo} {c : Claim} (hc : (s.holdOrphans p).claim n = some c)
    (horphan : c.isOrphanOf p = true) : ((s.holdOrphans p).port p).holdTimer ≠ none := by
  unfold State.holdOrphans at hc ⊢
  split_ifs at hc ⊢
  next hnone => exact absurd (not_orphan_of_orphans (List.isEmpty_iff.mp hnone) n c hc) (by simp [horphan])
  next =>
    rw [State.claim_raisePort, State.retireWhere_eq_freed] at hc
    exact absurd (not_orphan_of_freed s p n c hc) (by simp [horphan])
  next =>
    rw [State.raisePort_eq, State.port_portBecomes_self, State.port_modifyPort_self]
    simp

theorem sameCore_endLinkCommands (s : State) (p : Port) : SameCore s (s.endLinkCommands p) :=
  ((sameCore_reportEnd ..).trans (sameCore_reportEnd ..)).trans (sameCore_reportEnd ..)

/-- The end of link loss leaves the claims and the hold timer. -/
theorem linkLost_end (s : State) (p : Port) :
    (∀ n, ((s.raisePort p .linkLost).endLinkCommands p).claim n = s.claim n) ∧
      (((s.raisePort p .linkLost).endLinkCommands p).port p).holdTimer = (s.port p).holdTimer := by
  have hcore := (sameCore_raisePort s p .linkLost).trans (sameCore_endLinkCommands _ p)
  refine ⟨fun n => hcore.claim n, ?_⟩
  rw [hcore.port, State.port_setPort_self]

theorem holdTimer_linkLoss {p : Port} {n : SlotNo} {c : Claim} (hc : (s.linkLoss p).claim n = some c)
    (horphan : c.isOrphanOf p = true) : ((s.linkLoss p).port p).holdTimer ≠ none := by
  obtain ⟨hclaim, htimer⟩ := linkLost_end (((s.sessionLost p).dropEntries p).holdOrphans p) p
  rw [State.linkLoss_eq_sessionLost] at hc ⊢
  rw [hclaim] at hc
  rw [htimer]
  exact holdTimer_holdOrphans hc horphan

theorem sessionEnded_linkLoss (s : State) (p : Port) : SessionEnded p (s.linkLoss p) := by
  rw [State.linkLoss_eq_sessionLost]
  exact (moves_linkLost (s.sessionLost p) p).keeps (fun _ _ => Move.sessionEnded) (sessionEnded_sessionLost s p)

theorem boards_linkLoss {p : Port} (hs : BoardsIn (.closing p) (s.linkLoss p)) : Boards (s.linkLoss p) := by
  have hnone := noEntryOf_linkLoss s p
  have hended := sessionEnded_linkLoss s p
  refine boards_of_boardsIn hs (boundLaw_of_closing hs.bound hnone) (fun q hq n c hc hboard => ?_) (by simp)
  obtain rfl := Scope.closing.inj hq
  have hrest : c.inFlight = 0 := hs.bound.1.inFlight_of_noEntryOf hc hboard hnone
  have hphase : c.phase = .orphaned := by
    rcases hended.phases n c hc hboard with h | ⟨cause, h⟩
    · exact h
    · have hpos := hs.motion n c hc (by simp) (by simp [h, Phase.inMotion])
      omega
  rw [Claim.StateOk, if_pos hphase]
  exact ⟨hended.unlinked, holdTimer_linkLoss hc ((c.isOrphanOf_iff p).mpr ⟨hboard, hphase⟩)⟩

theorem boards_closePort {p : Port} {st : PortState} {signalling : Timer} (hs : BoardsIn (.closing p) (s.closePort p st signalling)) :
    Boards (s.closePort p st signalling) := by
  refine boards_of_boardsIn hs (boundLaw_of_closing hs.bound (noEntryOf_closePort s p st signalling)) (fun q hq n c hc hboard => ?_)
    (by simp)
  obtain rfl := Scope.closing.inj hq
  have hclaim : (((s.sessionClosed p st signalling).dropEntries p).freed p fun d => d.isBoardOf p).claim n = some c := by
    rw [← State.retireWhere_eq_freed]
    exact hc
  rw [State.claim_freed, Option.filter_eq_some_iff] at hclaim
  simp [hboard] at hclaim

/-! ### The end of a drain start and of a reshape acceptance (R8, R10) -/

@[simp] theorem State.claim_told (s : State) (n m : SlotNo) (c : Claim) : (s.told n c).claim m = s.claim m := by
  unfold State.told
  split
  · rw [State.owe_eq, State.claim_setPort]
  all_goals rfl

/-- A claim that is in motion after its settling has an access in flight. -/
theorem inFlight_pos_of_settle {n : SlotNo} {c : Claim} (hc : (s.settle n).claim n = some c) (hmotion : c.phase.inMotion = true) :
    0 < c.inFlight := by
  by_cases h : ∀ c, s.claim n = some c → c.phase.inMotion = true → c.inFlight ≠ 0
  · rw [settle_idle h] at hc
    exact Nat.pos_of_ne_zero (h c hc hmotion)
  · push Not at h
    obtain ⟨e, he, hemotion, hrest⟩ := h
    rw [(settle_core he hemotion hrest).claim, State.claim_told, State.claim_afterSettle, if_pos rfl] at hc
    rw [Claim.phase_of_settled hc] at hmotion
    simp [Phase.inMotion] at hmotion

theorem boards_settled {n : SlotNo} (hs : BoardsIn (.moving n) (s.settle n)) : Boards (s.settle n) := by
  refine boards_of_boardsIn hs (boundLaw_of_not_closing (by simp) hs.bound) (by simp) fun m hm c hc hmotion => ?_
  obtain rfl := Scope.moving.inj hm
  exact inFlight_pos_of_settle hc hmotion

theorem Fresh.boards (h : Fresh t) : Boards t := by
  have hnotBoard (n : SlotNo) (c : Claim) (hc : t.claim n = some c) (p : Port) : c.isBoardOf p = false := by
    obtain ⟨-, rfl⟩ := h.claim_some hc
    rfl
  refine ⟨h.boundLaw, h.sessionLaw, fun n c hc p hp => ?_, fun m n c d hc hd p hp => ?_, fun n c hc hmotion => ?_⟩
  · simp [hnotBoard n c hc p] at hp
  · simp [hnotBoard m c hc p] at hp
  · obtain ⟨-, rfl⟩ := h.claim_some hc
    simp [windowClaim, Phase.inMotion] at hmotion

theorem Stage.boards (h : Stage s t) : Boards s → Boards t :=
  h.keeps_in_scope (P := BoardsIn) (fun o _ => boardsIn_of_boards o) (fun _ _ _ => Move.boardsIn)
    (fun _ hu => boards_of_boardsIn hu ((boundIn_whole _).mp hu.bound) (by simp) (by simp))
    (fun _ _ _ hu => boards_of_boardsIn hu (boundLaw_of_not_closing (by simp) hu.bound) (by simp) (by simp))
    (fun _ _ _ => boards_linkLoss) (fun _ _ _ _ _ => boards_closePort) (fun _ _ _ _ => boards_settled)
    (fun _ _ _ _ _ => boards_settled) fun _ => Fresh.boards

/-- Settles O54: the window, the handles and the quota move by move, the law of board claims stage by stage. -/
theorem stepKeepsClaimTableLaws : Obligations.StepKeepsClaimTableLaws :=
  fun _ _ h =>
    ⟨step_keeps_of_moves (fun _ _ _ => Move.windowLaw) (fun _ => Fresh.windowLaw) h,
      step_keeps_of_moves (fun _ _ _ => Move.handleLaw) (fun _ => Fresh.handleLaw) h,
      step_keeps_of_moves (fun _ _ _ => Move.quotaLaw) (fun _ => Fresh.quotaLaw) h,
      fun hbound hsession hboard => (step_keeps (fun _ _ => Stage.boards) h ⟨hbound, hsession, hboard⟩).2.2⟩

end Sys2Proof.Machine
end

section
/-! PROOFS. The shape of the entries and of the issue lists. -/

namespace Sys2Proof.Machine

open Sys2Proof

variable {s t : State} {o : Scope}

/-! ### The shape of one entry (R67, R68, R77) -/

theorem statusSoFar_congr {e d : Entry} (h : StatusSoFarLaw e) (hpieces : d.pieces = e.pieces) (hstatus : d.status = e.status)
    (hset : d.setBy = e.setBy) : StatusSoFarLaw d := by
  unfold StatusSoFarLaw at h ⊢
  rw [hpieces, hstatus, hset]
  exact h

theorem PieceEnded.pieces_eq {e d : Entry} {k : Nat} {st : Status} (h : PieceEnded e k st d) : d.pieces = e.pieces.set k (.ended st) := by
  rw [h.pieces]
  exact Entry.pieces_note _ k st

theorem pos_of_mem_widths {sp : Space} {w : Nat} (h : w ∈ Space.widths sp) : 0 < w := by
  cases sp <;> simp [Space.widths] at h <;> omega

theorem pieceCount_pos (length : Nat) {width : Nat} (h : 0 < width) : 0 < pieceCount length width := by
  unfold pieceCount
  split
  next hlt => exact Nat.div_pos hlt.le h
  next => exact Nat.one_pos

theorem entryShape_newEntry (r : Request) (k : AccessKind) (sp : Space) (n : SlotNo) (p : Port) {a : Attributes} (h : 0 < a.width) :
    EntryShape (newEntry r k sp n p a) := by
  refine ⟨by simpa [newEntry] using pieceCount_pos r.length h, Nat.zero_le _, fun x hx => ?_, fun x hx => ?_, ?_⟩
  · exact List.eq_of_mem_replicate (by simpa [newEntry] using hx)
  · simp [newEntry] at hx
  · refine ⟨rfl, fun x hx hclosed => ?_⟩
    rw [List.eq_of_mem_replicate hx] at hclosed
    simp [PieceOutcome.closed, PieceOutcome.isEnded] at hclosed

/-- The piece after the last issued is NOT_ISSUED. -/
theorem EntryShape.next_piece {e : Entry} (h : EntryShape e) (hlt : e.issued < e.pieces.length) :
    e.pieces[e.issued]? = some .notIssued := by
  obtain ⟨-, -, hdrop, -⟩ := h
  rw [List.getElem?_eq_getElem hlt]
  exact congrArg some (hdrop _ (List.mem_drop_iff_getElem.mpr ⟨0, by simpa using hlt, by simp⟩))

/-- An OUTSTANDING piece is one of those issued. -/
theorem EntryShape.lt_issued {e : Entry} (h : EntryShape e) {i : Nat} {tag : PieceTag} (hi : e.pieces[i]? = some (.outstanding tag)) :
    i < e.issued := by
  obtain ⟨-, -, hdrop, -⟩ := h
  by_contra hle
  obtain ⟨hlt, heq⟩ := List.getElem?_eq_some_iff.mp hi
  have hmem : e.pieces[i] ∈ e.pieces.drop e.issued :=
    List.mem_drop_iff_getElem.mpr ⟨i - e.issued, by omega, by simp only [Nat.add_sub_cancel' (Nat.le_of_not_lt hle)]⟩
  rw [heq] at hmem
  simpa using hdrop _ hmem

theorem statusSoFar_issueNext {e : Entry} (h : EntryShape e) (hlt : e.issued < e.pieces.length) (tag : PieceTag) (timeout : Nat) :
    StatusSoFarLaw (e.issueNext tag timeout) := by
  have hnext := h.next_piece hlt
  obtain ⟨-, -, -, -, hstatus⟩ := h
  have hopen {l : List PieceOutcome} {x : PieceOutcome} {i : Nat} (hx : x ∈ l.set i (.outstanding tag)) (hclosed : x.closed) : x ∈ l := by
    rcases List.mem_or_eq_of_mem_set hx with hx | rfl
    · exact hx
    · simp [PieceOutcome.closed, PieceOutcome.isEnded] at hclosed
  cases hset : e.setBy with
  | none =>
    obtain ⟨hok, hall⟩ := hstatus.of_none hset
    simp only [StatusSoFarLaw, Entry.issueNext, hset]
    exact ⟨hok, fun x hx hclosed => hall x (hopen hx hclosed) hclosed⟩
  | some j =>
    obtain ⟨hbad, hj, hbefore⟩ := hstatus.of_some hset
    simp only [StatusSoFarLaw, Entry.issueNext, hset]
    refine ⟨hbad, ?_, fun x hx hclosed => ?_⟩
    · rw [List.getElem?_set_ne]
      · exact hj
      · rintro rfl
        rw [hnext] at hj
        simp at hj
    · rw [List.take_set] at hx
      exact hbefore x (hopen hx hclosed) hclosed

theorem entryShape_issueNext {e : Entry} (h : EntryShape e) (hlt : e.issued < e.pieces.length) (tag : PieceTag) (timeout : Nat) :
    EntryShape (e.issueNext tag timeout) := by
  have hstatus := statusSoFar_issueNext h hlt tag timeout
  obtain ⟨hpos, -, hdrop, htake, -⟩ := h
  refine ⟨by simpa [Entry.issueNext] using hpos, by simpa [Entry.issueNext] using hlt, fun x hx => ?_, fun x hx => ?_, hstatus⟩
  · simp only [Entry.issueNext] at hx
    rw [List.drop_set_of_lt (by omega)] at hx
    refine hdrop x ?_
    rw [← List.drop_drop] at hx
    exact List.mem_of_mem_drop hx
  · simp only [Entry.issueNext, List.take_add_one, List.mem_append, List.getElem?_set_self hlt] at hx
    rcases hx with hx | hx
    · rw [List.take_set, List.set_eq_of_length_le (by simp)] at hx
      exact htake x hx
    · simp only [Option.toList_some, List.mem_singleton] at hx
      simp [hx]

theorem entryShape_pieceEnded {e d : Entry} {i : Nat} {tag : PieceTag} {st : Status} (h : EntryShape e)
    (hi : e.pieces[i]? = some (.outstanding tag)) (hd : PieceEnded e i st d) : EntryShape d := by
  have hlt := h.lt_issued hi
  have hpieces := hd.pieces_eq
  obtain ⟨hpos, hle, hdrop, htake, hstatus⟩ := h
  refine ⟨by simpa [hpieces] using hpos, by simpa [hpieces, hd.issued] using hle, fun x hx => ?_, fun x hx => ?_, ?_⟩
  · rw [hpieces, hd.issued, List.drop_set_of_lt hlt] at hx
    exact hdrop x hx
  · rw [hpieces, hd.issued, List.take_set] at hx
    rcases List.mem_or_eq_of_mem_set hx with hx | rfl
    · exact htake x hx
    · simp
  · have hopen : ¬ (PieceOutcome.outstanding tag).closed := by simp [PieceOutcome.closed, PieceOutcome.isEnded]
    exact statusSoFar_congr (statusSoFar_endPiece hstatus hi hopen st) hd.pieces hd.status hd.setBy

/-! ### The entries and the issue lists of a state -/

/-- The issue list of a port holds entries of that port with pieces left to issue (R70). -/
def ListOk (s : State) (p : Port) : Prop :=
  ∀ k ∈ (s.port p).issueList, ∃ e, s.entry k = some e ∧ e.port = p ∧ e.issued < e.pieces.length

/-- Every entry has its shape, and every issue list holds what it may. -/
structure Shaped (s : State) : Prop where
  shape : ∀ k e, s.entry k = some e → EntryShape e
  lists : ∀ p, ListOk s p

theorem entryLaw_iff (s : State) : EntryLaw s ↔ WidthLaw s ∧ Shaped s :=
  ⟨fun ⟨hwidth, hshape, hlists⟩ => ⟨hwidth, hshape, hlists⟩, fun ⟨hwidth, hs⟩ => ⟨hwidth, hs.shape, hs.lists⟩⟩

theorem Shaped.congr (h : Shaped s) (hentry : ∀ k, t.entry k = s.entry k)
    (hlist : ∀ p, ∀ k ∈ (t.port p).issueList, k ∈ (s.port p).issueList) : Shaped t := by
  refine ⟨fun k e he => h.shape k e (hentry k ▸ he), fun p k hk => ?_⟩
  obtain ⟨e, he, hport, hlt⟩ := h.lists p k (hlist p k hk)
  exact ⟨e, (hentry k).trans he, hport, hlt⟩

/-- The issue lists of the other ports stand, and that of `p` holds no more than `l`. -/
theorem mem_issueList_setPort {p q : Port} {y : PortRecord} {k : EntryNo} (hy : ∀ j ∈ y.issueList, j ∈ (s.port p).issueList)
    (hk : k ∈ ((s.setPort p y).port q).issueList) : k ∈ (s.port q).issueList := by
  rw [State.port_setPort] at hk
  split at hk
  next h => exact h ▸ hy k hk
  next => exact hk

theorem issueList_setPort {p : Port} {y : PortRecord} (h : y.issueList = (s.port p).issueList) (q : Port) :
    ((s.setPort p y).port q).issueList = (s.port q).issueList := by
  rw [State.port_setPort]
  split
  next hq => rw [h, hq]
  next => rfl

theorem Shaped.setPort (h : Shaped s) {p : Port} {y : PortRecord} (hy : ∀ k ∈ y.issueList, k ∈ (s.port p).issueList) :
    Shaped (s.setPort p y) :=
  h.congr (fun _ => rfl) fun _ _ => mem_issueList_setPort hy

theorem issueList_afterSettle (s : State) (n : SlotNo) (c : Claim) (p : Port) :
    ((s.afterSettle n c).port p).issueList = (s.port p).issueList := by
  obtain ⟨_, _, hport⟩ := s.port_afterSettle n c p
  rw [hport]

theorem issueList_lowered (s : State) (n : SlotNo) (p : Port) : ((s.lowered n).port p).issueList = (s.port p).issueList := by
  obtain ⟨_, _, hport⟩ := s.port_lowered n p
  rw [hport]

/-- The list of another port does not hold the place of an entry. -/
theorem Shaped.not_mem_of_port (h : Shaped s) {k : EntryNo} {e : Entry} {p : Port} (he : s.entry k = some e) (hp : e.port ≠ p) :
    k ∉ (s.port p).issueList := by
  intro hk
  obtain ⟨d, hd, hport, -⟩ := h.lists p k hk
  rw [he] at hd
  exact hp (Option.some.inj hd ▸ hport)

/-- An entry leaves its place and the issue list of its port. -/
theorem Shaped.freed (h : Shaped s) {k : EntryNo} {e : Entry} (he : s.entry k = some e)
    (hentry : ∀ j, t.entry j = if k = j then none else s.entry j)
    (hlist : ∀ p, ∀ j ∈ (t.port p).issueList, j ∈ (s.port p).issueList ∧ (p = e.port → j ≠ k)) : Shaped t := by
  refine ⟨fun j d hd => ?_, fun p j hj => ?_⟩
  · rw [hentry] at hd
    split at hd
    · simp at hd
    · exact h.shape j d hd
  · obtain ⟨hold, hne⟩ := hlist p j hj
    have hjk : k ≠ j := by
      rintro rfl
      by_cases hp : e.port = p
      · exact hne hp.symm rfl
      · exact h.not_mem_of_port he hp hold
    obtain ⟨d, hd, hport, hlt⟩ := h.lists p j hold
    exact ⟨d, by rw [hentry, if_neg hjk, hd], hport, hlt⟩

/-- An entry is rewritten under its port: it keeps its shape, and has pieces left where an issue list holds its place. -/
theorem Shaped.rewritten (h : Shaped s) {k : EntryNo} {e d : Entry} (he : s.entry k = some e) (hshape : EntryShape d)
    (hport : d.port = e.port) (hentry : ∀ j, t.entry j = if k = j then some d else s.entry j)
    (hlist : ∀ p, ∀ j ∈ (t.port p).issueList, j ∈ (s.port p).issueList ∧ (k = j → d.issued < d.pieces.length)) : Shaped t := by
  refine ⟨fun j x hx => ?_, fun p j hj => ?_⟩
  · rw [hentry] at hx
    split at hx
    · exact Option.some.inj hx ▸ hshape
    · exact h.shape j x hx
  · obtain ⟨hold, hleft⟩ := hlist p j hj
    obtain ⟨x, hx, hxp, hlt⟩ := h.lists p j hold
    by_cases hjk : k = j
    · refine ⟨d, by rw [hentry, if_pos hjk], hport.trans ?_, hleft hjk⟩
      rw [← hjk, he] at hx
      exact Option.some.inj hx ▸ hxp
    · exact ⟨x, by rw [hentry, if_neg hjk, hx], hxp, hlt⟩

/-- An entry enters a free place, at the end of the issue list of its port. -/
theorem Shaped.created (h : Shaped s) {k : EntryNo} {e : Entry} (hk : s.entry k = none) (hshape : EntryShape e)
    (hleft : e.issued < e.pieces.length) (hentry : ∀ j, t.entry j = if k = j then some e else s.entry j)
    (hlist : ∀ p, ∀ j ∈ (t.port p).issueList, j ∈ (s.port p).issueList ∨ j = k ∧ p = e.port) : Shaped t := by
  refine ⟨fun j x hx => ?_, fun p j hj => ?_⟩
  · rw [hentry] at hx
    split at hx
    · exact Option.some.inj hx ▸ hshape
    · exact h.shape j x hx
  · rcases hlist p j hj with hold | ⟨rfl, rfl⟩
    · obtain ⟨x, hx, hxp, hlt⟩ := h.lists p j hold
      have hjk : k ≠ j := by
        rintro rfl
        simp [hk] at hx
      exact ⟨x, by rw [hentry, if_neg hjk, hx], hxp, hlt⟩
    · exact ⟨e, by rw [hentry, if_pos rfl], rfl, hleft⟩

theorem mem_issueList_append {k j : EntryNo} {p q : Port} {x : PortRecord} (hx : x.issueList = (s.port p).issueList ++ [k])
    (hj : j ∈ ((s.setPort p x).port q).issueList) : j ∈ (s.port q).issueList ∨ j = k ∧ q = p := by
  rw [State.port_setPort] at hj
  split at hj
  next hp =>
    subst hp
    rw [hx] at hj
    simpa using hj
  next => exact .inl hj

theorem pieces_newEntry_pos (r : Request) (k : AccessKind) (sp : Space) (n : SlotNo) (p : Port) {a : Attributes} (h : 0 < a.width) :
    (newEntry r k sp n p a).issued < (newEntry r k sp n p a).pieces.length := by
  simpa [newEntry] using pieceCount_pos r.length h

theorem Move.shaped (h : Move o s t) (hwidth : WidthLaw s) (hs : Shaped s) : Shaped t := by
  cases h with
  | frame h => exact hs.congr h.entry fun p k hk => h.port p ▸ hk
  | record h | halt h | shut h | opening h => exact (hs.setPort (fun k hk => h.issueList ▸ hk)).congr (fun _ => rfl) fun _ _ => id
  | holdStart | holdStop | setQuota | setHold | freeTags => exact hs.setPort fun _ hk => hk
  | clearList => exact hs.setPort fun k hk => by simp at hk
  | orphan | setTiming | admitHost | reshape | drain => exact hs.congr (fun _ => rfl) fun _ _ hk => hk
  | @setPool _ sp q => cases sp <;> exact hs.congr (fun _ => rfl) fun _ _ hk => hk
  | setIdle =>
    split
    · refine hs.congr (fun k => State.entry_stopIdleTimers _ k) fun p k hk => ?_
      rw [State.stopIdleTimers_port] at hk
      exact hk
    · exact hs.congr (fun _ => rfl) fun _ _ hk => hk
  | @admitBoard _ n p =>
    refine hs.congr (fun _ => rfl) fun q k hk => ?_
    rw [issueList_setPort (by rfl)] at hk
    exact hk
  | @retire _ _ n c p =>
    refine hs.congr (fun _ => rfl) fun q k hk => ?_
    rw [issueList_setPort (by rfl)] at hk
    exact hk
  | @settle _ _ n c =>
    exact hs.congr (fun k => s.entry_afterSettle n c k) fun p k hk => issueList_afterSettle s n c p ▸ hk
  | @release _ _ k e tags flags he =>
    refine hs.freed he (fun j => ?_) fun p j hj => ?_
    · rw [State.entry_lowered, State.entry_setEntry]
      rfl
    · rw [issueList_lowered, State.port_setEntry, State.port_setPort] at hj
      split at hj
      next hp =>
        obtain ⟨hold, hne⟩ := List.mem_filter.mp hj
        exact ⟨hp ▸ hold, fun _ => by simpa using hne⟩
      next hp => exact ⟨hj, fun h => absurd h.symm hp⟩
  | @create _ k e n c p a hk hc hlive howner r kind sp he =>
    subst he
    have hwide : 0 < a.width := by
      have hw := hwidth n c hc
      rcases howner with h | ⟨_, _, h⟩
      all_goals
        rw [h] at hw
        exact pos_of_mem_widths hw
    exact hs.created hk (entryShape_newEntry r kind sp n p hwide) (pieces_newEntry_pos r kind sp n p hwide) (fun j => s.entry_setEntry k j _)
      fun q j hj => mem_issueList_append (s := (s.setEntry k _).setClaim n _) rfl hj
  | @issue _ k e p u hlist he =>
    obtain ⟨e', he', hport, hlt⟩ := hs.lists p k hlist
    obtain rfl : e = e' := Option.some.inj (he.symm.trans he')
    refine hs.rewritten he (entryShape_issueNext (hs.shape k e he) hlt u s.completionTimeout) rfl (fun j => s.entry_setEntry k j _)
      fun q j hj => ?_
    rw [State.port_setPort] at hj
    split at hj
    next hp =>
      subst hp
      dsimp only at hj
      split at hj
      next hleft => exact ⟨hj, fun _ => by simpa [Entry.issueNext] using hleft⟩
      next =>
        obtain ⟨hold, hne⟩ := List.mem_filter.mp hj
        exact ⟨hold, fun h => by simp [h] at hne⟩
    next hp =>
      refine ⟨hj, fun h => ?_⟩
      subst h
      exact absurd hj (hs.not_mem_of_port he (fun h => hp (hport.symm.trans h)))
  | @complete _ k e i u st d flags he hpiece hd =>
    refine hs.rewritten he (entryShape_pieceEnded (hs.shape k e he) hpiece hd) hd.port (fun j => s.entry_setEntry k j _)
      fun q j hj => ?_
    have hold : j ∈ (s.port q).issueList := issueList_setPort (s := s)
      (y := { s.port e.port with tagsInUse := (s.port e.port).tagsInUse.set u.val false, flags := flags }) rfl q ▸ hj
    refine ⟨hold, fun h => ?_⟩
    subst h
    obtain ⟨e', he', -, hlt⟩ := hs.lists q k hold
    obtain rfl : e = e' := Option.some.inj (he.symm.trans he')
    simpa [hd.issued, hd.pieces_eq] using hlt
  | @disown _ k e he =>
    refine hs.rewritten (d := { e with owes := none }) he (hs.shape k e he) rfl (fun j => s.entry_setEntry k j _) fun q j hj => ⟨hj, fun h => ?_⟩
    subst h
    obtain ⟨e', he', -, hlt⟩ := hs.lists q k hj
    obtain rfl : e = e' := Option.some.inj (he.symm.trans he')
    exact hlt

theorem Move.entryLaw (h : Move o s t) (hs : EntryLaw s) : EntryLaw t := by
  obtain ⟨hwidth, hshaped⟩ := (entryLaw_iff s).mp hs
  exact (entryLaw_iff t).mpr ⟨h.widthLaw hwidth, h.shaped hwidth hshaped⟩

theorem Fresh.entryLaw (h : Fresh t) : EntryLaw t := by
  refine (entryLaw_iff t).mpr ⟨h.widthLaw, fun k e he => by simp [h.entry] at he, fun p k hk => ?_⟩
  obtain ⟨b, hb⟩ := h.ports p
  simp [hb, PortRecord.reset] at hk

end Sys2Proof.Machine
end

section
/-! PROOFS. The piece tags: a tag that an OUTSTANDING piece holds is in use, and no other piece of the port holds it. -/

namespace Sys2Proof.Machine

open Sys2Proof

variable {s t : State} {o : Scope}

/-! ### Pieces that hold a tag -/

theorem EntryShape.not_outstanding {e : Entry} (h : EntryShape e) (hissued : e.issued = 0) (u : PieceTag) :
    .outstanding u ∉ e.pieces := by
  intro hmem
  obtain ⟨i, hi⟩ := List.mem_iff_getElem?.mp hmem
  have hlt := h.lt_issued hi
  omega

/-- Every tag held in `t` was held in `s` by the piece of the same place, as often, and is still in use. -/
theorem PieceTagLaw.of_old (hs : PieceTagLaw s)
    (hold : ∀ k d u, t.entry k = some d → .outstanding u ∈ d.pieces →
      ∃ e, s.entry k = some e ∧ d.port = e.port ∧ .outstanding u ∈ e.pieces ∧
        d.pieces.count (.outstanding u) = e.pieces.count (.outstanding u))
    (htags : ∀ k d u, t.entry k = some d → .outstanding u ∈ d.pieces → (s.port d.port).tagsInUse[u] = true →
      (t.port d.port).tagsInUse[u] = true) : PieceTagLaw t := by
  obtain ⟨huse, hone⟩ := hs
  refine ⟨fun k d hd u hu => ?_, fun j k hjk c d hc hd hport u hu hu' => ?_⟩
  · obtain ⟨e, he, hport, hmem, hcount⟩ := hold k d u hd hu
    obtain ⟨hinUse, hcount1⟩ := huse k e he u hmem
    exact ⟨htags k d u hd hu (hport ▸ hinUse), hcount.trans hcount1⟩
  · obtain ⟨c', hc', hpc, hmem, -⟩ := hold j c u hc hu
    obtain ⟨d', hd', hpd, hmem', -⟩ := hold k d u hd hu'
    exact hone j k hjk c' d' hc' hd' (hpc.symm.trans (hport.trans hpd)) u hmem hmem'

theorem PieceTagLaw.same (hs : PieceTagLaw s) (hentry : ∀ k, t.entry k = s.entry k)
    (htags : ∀ p, (t.port p).tagsInUse = (s.port p).tagsInUse) : PieceTagLaw t :=
  hs.of_old (fun k d u hd hu => ⟨d, hentry k ▸ hd, rfl, hu, rfl⟩) fun k d u _ _ h => by rw [htags]; exact h

theorem tagsInUse_setPort {p : Port} {y : PortRecord} (h : y.tagsInUse = (s.port p).tagsInUse) (q : Port) :
    ((s.setPort p y).port q).tagsInUse = (s.port q).tagsInUse := by
  rw [State.port_setPort]
  split
  next hq => rw [h, hq]
  next => rfl

theorem tagsInUse_afterSettle (s : State) (n : SlotNo) (c : Claim) (p : Port) :
    ((s.afterSettle n c).port p).tagsInUse = (s.port p).tagsInUse := by
  obtain ⟨_, _, hport⟩ := s.port_afterSettle n c p
  rw [hport]

theorem tagsInUse_lowered (s : State) (n : SlotNo) (p : Port) : ((s.lowered n).port p).tagsInUse = (s.port p).tagsInUse := by
  obtain ⟨_, _, hport⟩ := s.port_lowered n p
  rw [hport]

/-- The tags of a port with no piece issued are freed (R72, R85, R86). -/
theorem pieceTagLaw_freeTags {p : Port} (hs : PieceTagLaw s) (hshape : Shaped s)
    (h : ∀ k e, s.entry k = some e → e.port = p → e.issued = 0) :
    PieceTagLaw (s.setPort p { s.port p with tagsInUse := Vector.replicate 8 false }) := by
  refine hs.of_old (fun k d u hd hu => ⟨d, hd, rfl, hu, rfl⟩) fun k d u hd hu hold => ?_
  by_cases hp : d.port = p
  · exact absurd hu ((hshape.shape k d hd).not_outstanding (h k d hd hp) u)
  · rw [State.port_setPort_ne _ _ hp]
    exact hold

/-- An entry leaves its place, and with it the tags that it holds. -/
theorem pieceTagLaw_freed {k : EntryNo} {e : Entry} {tags : Vector Bool 8} {y : PortRecord} (hs : PieceTagLaw s) (he : s.entry k = some e)
    (htags : TagsStay (s.port e.port) e tags) (hy : y.tagsInUse = tags) (hentry : ∀ j, t.entry j = if k = j then none else s.entry j)
    (hport : ∀ p, (t.port p).tagsInUse = ((s.setPort e.port y).port p).tagsInUse) : PieceTagLaw t := by
  have hother (j : EntryNo) (d : Entry) (hd : t.entry j = some d) : k ≠ j ∧ s.entry j = some d := by
    rw [hentry] at hd
    split at hd
    · simp at hd
    next h => exact ⟨h, hd⟩
  refine hs.of_old (fun j d u hd hu => ⟨d, (hother j d hd).2, rfl, hu, rfl⟩) fun j d u hd hu hold => ?_
  obtain ⟨hjk, hd⟩ := hother j d hd
  rw [hport]
  by_cases hp : d.port = e.port
  · rw [hp, State.port_setPort_self, hy]
    rw [hp] at hold
    exact htags u hold (hs.2 j k (Ne.symm hjk) d e hd he hp u hu)
  · rw [State.port_setPort_ne _ _ hp]
    exact hold

/-- An entry is rewritten with the same pieces, or enters with none OUTSTANDING. -/
theorem pieceTagLaw_entered {k : EntryNo} {d : Entry} (hs : PieceTagLaw s)
    (hentry : ∀ j, t.entry j = if k = j then some d else s.entry j)
    (hnew : (∀ u, .outstanding u ∉ d.pieces) ∨ ∃ e, s.entry k = some e ∧ d.port = e.port ∧ d.pieces = e.pieces)
    (htags : ∀ p, (t.port p).tagsInUse = (s.port p).tagsInUse) : PieceTagLaw t := by
  refine hs.of_old (fun j x u hx hu => ?_) fun j x u _ _ h => by rw [htags]; exact h
  rw [hentry] at hx
  split at hx
  next hjk =>
    obtain rfl := Option.some.inj hx
    rcases hnew with hnone | ⟨e, he, hport, hpieces⟩
    · exact absurd hu (hnone u)
    · exact ⟨e, hjk ▸ he, hport, hpieces ▸ hu, by rw [hpieces]⟩
  next => exact ⟨x, hx, rfl, hu, rfl⟩

/-! ### A piece is issued, and a piece ends (R71, R74) -/

theorem count_set_of_ne {l : List PieceOutcome} {i : Nat} {x y u : PieceOutcome} (hi : l[i]? = some x) (hx : x ≠ u) (hy : y ≠ u) :
    (l.set i y).count u = l.count u := by
  obtain ⟨hlt, heq⟩ := List.getElem?_eq_some_iff.mp hi
  rw [List.count_set hlt, heq]
  simp [hx, hy]

theorem getElem_set_tag (tags : Vector Bool 8) (u v : PieceTag) (b : Bool) :
    (tags.set u.val b u.isLt)[v] = if u = v then b else tags[v] := by
  simp only [Fin.getElem_fin, Vector.getElem_set, Fin.ext_iff]

/-- The piece under a tag ends, and the tag is free (R74). -/
theorem pieceTagLaw_complete {k : EntryNo} {e d : Entry} {i : Nat} {u : PieceTag} {st : Status} {y : PortRecord} (hs : PieceTagLaw s)
    (he : s.entry k = some e) (hpiece : e.pieces[i]? = some (.outstanding u)) (hd : PieceEnded e i st d)
    (hy : y.tagsInUse = (s.port e.port).tagsInUse.set u.val false u.isLt) (hentry : ∀ j, t.entry j = if k = j then some d else s.entry j)
    (hport : ∀ p, (t.port p).tagsInUse = ((s.setPort e.port y).port p).tagsInUse) : PieceTagLaw t := by
  have hmem : .outstanding u ∈ e.pieces := List.mem_of_getElem? hpiece
  have hgone : .outstanding u ∉ d.pieces := by
    obtain ⟨hlt, heq⟩ := List.getElem?_eq_some_iff.mp hpiece
    rw [← List.count_eq_zero, hd.pieces_eq, List.count_set hlt, heq, (hs.1 k e he u hmem).2]
    simp
  refine hs.of_old (fun j x v hx hv => ?_) fun j x v hx hv hold => ?_
  · rw [hentry] at hx
    split at hx
    next hjk =>
      obtain rfl := Option.some.inj hx
      have hvu : v ≠ u := fun h => hgone (h ▸ hv)
      refine ⟨e, hjk ▸ he, hd.port, ?_, ?_⟩
      · rw [hd.pieces_eq] at hv
        rcases List.mem_or_eq_of_mem_set hv with hv | hv
        · exact hv
        · simp at hv
      · rw [hd.pieces_eq]
        exact count_set_of_ne hpiece (by simpa using Ne.symm hvu) (by simp)
    next => exact ⟨x, hx, rfl, hv, rfl⟩
  · have hvu (hp : x.port = e.port) : v ≠ u := by
      rintro rfl
      rw [hentry] at hx
      split at hx
      next => exact hgone (Option.some.inj hx ▸ hv)
      next hjk => exact hs.2 j k (Ne.symm hjk) x e hx he hp v hv hmem
    rw [hport]
    by_cases hp : x.port = e.port
    · rw [hp, State.port_setPort_self, hy, getElem_set_tag, if_neg (Ne.symm (hvu hp)), ← hp]
      exact hold
    · rw [State.port_setPort_ne _ _ hp]
      exact hold

/-- The next piece of an entry is issued under a free tag (R71). -/
theorem pieceTagLaw_issue {k : EntryNo} {e d : Entry} {u : PieceTag} {y : PortRecord} (hs : PieceTagLaw s) (he : s.entry k = some e)
    (hnext : e.pieces[e.issued]? = some .notIssued) (hfree : (s.port e.port).tagsInUse[u] = false) (hdport : d.port = e.port)
    (hpieces : d.pieces = e.pieces.set e.issued (.outstanding u))
    (hy : y.tagsInUse = (s.port e.port).tagsInUse.set u.val true u.isLt) (hentry : ∀ j, t.entry j = if k = j then some d else s.entry j)
    (hport : ∀ p, (t.port p).tagsInUse = ((s.setPort e.port y).port p).tagsInUse) : PieceTagLaw t := by
  obtain ⟨huse, hone⟩ := hs
  have hunheld (j : EntryNo) (x : Entry) (hx : s.entry j = some x) (hp : x.port = e.port) : .outstanding u ∉ x.pieces := by
    intro hmem
    have hinUse := (huse j x hx u hmem).1
    rw [hp, hfree] at hinUse
    simp at hinUse
  have hmemOld (v : PieceTag) (hv : .outstanding v ∈ d.pieces) : v = u ∨ .outstanding v ∈ e.pieces := by
    rw [hpieces] at hv
    rcases List.mem_or_eq_of_mem_set hv with hv | hv
    · exact .inr hv
    · exact .inl (by simpa using hv)
  have htags (v : PieceTag) (p : Port) (hv : v ≠ u ∨ p ≠ e.port) (hold : (s.port p).tagsInUse[v] = true) :
      (t.port p).tagsInUse[v] = true := by
    rw [hport]
    by_cases hp : p = e.port
    · rw [hp, State.port_setPort_self, hy, getElem_set_tag, if_neg (Ne.symm (hv.elim id fun h => absurd hp h)), ← hp]
      exact hold
    · rw [State.port_setPort_ne _ _ hp]
      exact hold
  refine ⟨fun j x hx v hv => ?_, fun i j hij c x hc hx hcx v hvc hvx => ?_⟩
  · rw [hentry] at hx
    split at hx
    next =>
      obtain rfl := Option.some.inj hx
      obtain ⟨hlt, heq⟩ := List.getElem?_eq_some_iff.mp hnext
      rcases hmemOld v hv with rfl | hold
      · refine ⟨?_, ?_⟩
        · rw [hport, hdport, State.port_setPort_self, hy, getElem_set_tag, if_pos rfl]
        · rw [hpieces, List.count_set hlt, heq, List.count_eq_zero.mpr (hunheld k e he rfl)]
          simp
      · have hvu : v ≠ u := fun h => hunheld k e he rfl (h ▸ hold)
        obtain ⟨hinUse, hcount⟩ := huse k e he v hold
        refine ⟨htags v _ (.inl hvu) (hdport ▸ hinUse), ?_⟩
        rw [hpieces, count_set_of_ne hnext (by simp) (by simpa using Ne.symm hvu), hcount]
    next hjk =>
      obtain ⟨hinUse, hcount⟩ := huse j x hx v hv
      refine ⟨htags v _ ?_ hinUse, hcount⟩
      by_cases hp : x.port = e.port
      · exact .inl fun h => hunheld j x hx hp (h ▸ hv)
      · exact .inr hp
  · rw [hentry] at hc hx
    split at hc
    next hik =>
      obtain rfl := Option.some.inj hc
      rw [if_neg (fun hjk => hij (hik.symm.trans hjk))] at hx
      rcases hmemOld v hvc with rfl | hold
      · exact hunheld j x hx (hcx.symm.trans hdport) hvx
      · exact hone k j (fun h => hij (hik.symm.trans h)) e x he hx (hdport.symm.trans hcx) v hold hvx
    next hik =>
      split at hx
      next hjk =>
        obtain rfl := Option.some.inj hx
        rcases hmemOld v hvx with rfl | hold
        · exact hunheld i c hc (hcx.trans hdport) hvc
        · exact hone i k (Ne.symm hik) c e hc he (hcx.trans hdport) v hvc hold
      next => exact hone i j hij c x hc hx hcx v hvc hvx

theorem Move.pieceTagLaw (h : Move o s t) (hshape : Shaped s) (hs : PieceTagLaw s) : PieceTagLaw t := by
  cases h with
  | frame h => exact hs.same h.entry fun p => by rw [h.port]
  | record h | halt h | shut h => exact hs.same (fun _ => rfl) (tagsInUse_setPort h.tagsInUse)
  | opening h => exact hs.same (fun _ => rfl) (tagsInUse_setPort (s := s) h.tagsInUse)
  | holdStart | holdStop | setQuota | setHold | clearList => exact hs.same (fun _ => rfl) (tagsInUse_setPort (by rfl))
  | admitBoard | retire => exact hs.same (fun _ => rfl) fun p => by rw [tagsInUse_setPort (by rfl)]; rfl
  | orphan | setTiming | admitHost | reshape | drain => exact hs.same (fun _ => rfl) fun _ => rfl
  | @setPool _ sp q => cases sp <;> exact hs.same (fun _ => rfl) fun _ => rfl
  | setIdle =>
    split
    · refine hs.same (fun k => State.entry_stopIdleTimers _ k) fun p => ?_
      rw [State.stopIdleTimers_port]
      rfl
    · exact hs.same (fun _ => rfl) fun _ => rfl
  | settle => exact hs.same (fun k => State.entry_afterSettle _ _ _ k) fun p => tagsInUse_afterSettle ..
  | freeTags h => exact pieceTagLaw_freeTags hs hshape h
  | @release _ _ k e tags flags he htags =>
    refine pieceTagLaw_freed (y := (s.port e.port).left k tags flags) hs he htags rfl (fun j => ?_) fun p => tagsInUse_lowered ..
    rw [State.entry_lowered, State.entry_setEntry]
    rfl
  | @create _ k e n c p a hk hc hlive howner r kind sp he =>
    subst he
    refine pieceTagLaw_entered hs (fun j => s.entry_setEntry k j _) (.inl fun u hu => ?_) fun q => by rw [tagsInUse_setPort (by rfl)]; rfl
    simpa using List.eq_of_mem_replicate (show PieceOutcome.outstanding u ∈ List.replicate _ PieceOutcome.notIssued from hu)
  | @issue _ k e p u hlist he _ _ hfree =>
    obtain ⟨e', he', rfl, hlt⟩ := hshape.lists p k hlist
    obtain rfl : e = e' := Option.some.inj (he.symm.trans he')
    exact pieceTagLaw_issue (d := e.issueNext u s.completionTimeout) hs he ((hshape.shape k e he).next_piece hlt) hfree rfl rfl rfl
      (fun j => s.entry_setEntry k j _) fun _ => rfl
  | @complete _ k e i u st d flags he hpiece hd =>
    exact pieceTagLaw_complete hs he hpiece hd rfl (fun j => s.entry_setEntry k j _) fun _ => rfl
  | @disown _ k e he =>
    exact pieceTagLaw_entered (d := { e with owes := none }) hs (fun j => s.entry_setEntry k j _) (.inr ⟨e, he, rfl, rfl⟩) fun _ => rfl

end Sys2Proof.Machine
end

section
/-! PROOFS. Pieces are OUTSTANDING only in RUN, and what is QUEUED and owes an answer is bound to a claim at rest. -/

namespace Sys2Proof.Machine

open Sys2Proof

variable {s t : State} {o : Scope}

/-! ### OUTSTANDING pieces, in the scope of a chain (R71, R72) -/

/-- A port on its way out of RUN may have pieces that still end. -/
def Scope.leaves (o : Scope) (p : Port) : Prop :=
  o = .realigning p ∨ o = .closing p

/-- R72, but for a port on its way out of RUN. -/
def OutstandingIn (o : Scope) (s : State) : Prop :=
  ∀ k e, s.entry k = some e → ∀ u : PieceTag, .outstanding u ∈ e.pieces → ¬ o.leaves e.port →
    (s.port e.port).Issuing ∧ u.val < (s.port e.port).credit

/-- A record in which pieces that may be OUTSTANDING still may be. -/
def StillIssues (x y : PortRecord) : Prop :=
  y.credit = x.credit ∧ (x.Issuing → y.Issuing)

theorem StillIssues.refl (x : PortRecord) : StillIssues x x :=
  ⟨rfl, id⟩

theorem StillIssues.trans {x y z : PortRecord} (h : StillIssues x y) (h' : StillIssues y z) : StillIssues x z :=
  ⟨h'.1.trans h.1, h'.2 ∘ h.2⟩

theorem OutstandingIn.of_old (hs : OutstandingIn o s)
    (hold : ∀ k d, t.entry k = some d → ∀ u : PieceTag, .outstanding u ∈ d.pieces →
      ∃ e, s.entry k = some e ∧ d.port = e.port ∧ .outstanding u ∈ e.pieces)
    (hport : ∀ p, ¬ o.leaves p → StillIssues (s.port p) (t.port p)) : OutstandingIn o t := by
  intro k d hd u hu hleaves
  obtain ⟨e, he, hdport, hmem⟩ := hold k d hd u hu
  obtain ⟨hcredit, hissuing⟩ := hport d.port hleaves
  rw [hdport] at hleaves hcredit hissuing ⊢
  obtain ⟨h, hlt⟩ := hs k e he u hmem hleaves
  exact ⟨hissuing h, hcredit ▸ hlt⟩

theorem OutstandingIn.ports (hs : OutstandingIn o s) (hentry : ∀ k, t.entry k = s.entry k)
    (hport : ∀ p, ¬ o.leaves p → StillIssues (s.port p) (t.port p)) : OutstandingIn o t :=
  hs.of_old (fun k d hd _ hu => ⟨d, hentry k ▸ hd, rfl, hu⟩) hport

theorem stillIssues_setPort {p : Port} {y : PortRecord} (h : StillIssues (s.port p) y) (q : Port) :
    StillIssues (s.port q) ((s.setPort p y).port q) := by
  rw [State.port_setPort]
  split
  next hq => exact hq ▸ h
  next => exact .refl _

theorem stillIssues_afterSettle (s : State) (n : SlotNo) (c : Claim) (p : Port) :
    StillIssues (s.port p) ((s.afterSettle n c).port p) := by
  obtain ⟨_, _, hport⟩ := s.port_afterSettle n c p
  rw [hport]
  exact ⟨rfl, id⟩

theorem stillIssues_lowered (s : State) (n : SlotNo) (p : Port) : StillIssues (s.port p) ((s.lowered n).port p) := by
  obtain ⟨_, _, hport⟩ := s.port_lowered n p
  rw [hport]
  exact ⟨rfl, id⟩

/-- A record whose port has no entry, or goes on issuing. -/
theorem outstandingIn_record {p : Port} {y : PortRecord} (hs : OutstandingIn o s) (hcredit : y.credit = (s.port p).credit)
    (hissuing : (s.port p).Issuing → y.Issuing ∨ NoEntryOf s p) : OutstandingIn o (s.setPort p y) := by
  intro k e he u hu hleaves
  obtain ⟨h, hlt⟩ := hs k e he u hu hleaves
  rw [State.port_setPort]
  split
  next hp =>
    subst hp
    exact ⟨(hissuing h).resolve_right fun hnone => hnone k e he rfl, hcredit ▸ hlt⟩
  next => exact ⟨h, hlt⟩

/-- A record of a port that is on its way out of RUN. -/
theorem outstandingIn_leaving {p : Port} {y : PortRecord} (hs : OutstandingIn o s) (hp : o.leaves p) : OutstandingIn o (s.setPort p y) := by
  refine hs.ports (fun _ => rfl) fun q hq => ?_
  have hne : q ≠ p := fun h => hq (by rwa [h])
  rw [State.port_setPort_ne _ _ hne]
  exact .refl _

theorem Move.outstandingIn (h : Move o s t) (hshape : Shaped s) (hs : OutstandingIn o s) : OutstandingIn o t := by
  cases h with
  | frame h => exact hs.ports h.entry fun p _ => h.port p ▸ .refl _
  | record h hissuing => exact outstandingIn_record hs h.credit hissuing
  | halt => exact outstandingIn_leaving hs (.inl rfl)
  | shut | holdStart => exact outstandingIn_leaving hs (.inr rfl)
  | @opening _ p y h =>
    intro k e he u hu hleaves
    obtain ⟨hissuing, hlt⟩ := hs k e he u hu hleaves
    have hne : e.port ≠ p := fun hp => by
      rw [hp] at hissuing
      exact not_issuing_of_state (by simp [h.greet]) hissuing
    rw [State.port_setPort_ne _ _ hne]
    exact ⟨hissuing, hlt⟩
  | holdStop | setQuota | setHold | clearList | freeTags =>
    exact hs.ports (fun _ => rfl) fun q _ => stillIssues_setPort (by exact ⟨rfl, id⟩) q
  | orphan | setTiming | admitHost | reshape | drain => exact hs.ports (fun _ => rfl) fun _ _ => .refl _
  | @setPool _ sp q => cases sp <;> exact hs.ports (fun _ => rfl) fun _ _ => .refl _
  | setIdle =>
    split
    · refine hs.ports (fun k => State.entry_stopIdleTimers _ k) fun p _ => ?_
      rw [State.stopIdleTimers_port]
      exact ⟨rfl, id⟩
    · exact hs.ports (fun _ => rfl) fun _ _ => .refl _
  | @admitBoard _ n | @retire _ _ n =>
    exact hs.ports (fun _ => rfl) fun q _ => stillIssues_setPort (s := s.setClaim n _) (by exact ⟨rfl, id⟩) q
  | @settle _ _ n c => exact hs.ports (fun k => s.entry_afterSettle n c k) fun p _ => stillIssues_afterSettle s n c p
  | @release _ _ k e tags flags he =>
    refine hs.of_old (fun j d hd u hu => ?_) fun q _ =>
      (stillIssues_setPort (s := s) (y := (s.port e.port).left k tags flags) (by exact ⟨rfl, id⟩) q).trans
        (stillIssues_lowered ((s.setPort e.port ((s.port e.port).left k tags flags)).setEntry k none) e.slot q)
    rw [State.entry_lowered, State.entry_setEntry] at hd
    split at hd
    · simp at hd
    · exact ⟨d, hd, rfl, hu⟩
  | @create _ k e n c p a hk hc hlive howner r kind sp he =>
    subst he
    refine hs.of_old (fun j d hd u hu => ?_) fun q _ => stillIssues_setPort (s := (s.setEntry k _).setClaim n _) (by exact ⟨rfl, id⟩) q
    rw [State.entry_setPort, State.entry_setClaim, State.entry_setEntry] at hd
    split at hd
    · obtain rfl := Option.some.inj hd
      simpa using List.eq_of_mem_replicate (show PieceOutcome.outstanding u ∈ List.replicate _ PieceOutcome.notIssued from hu)
    · exact ⟨d, hd, rfl, hu⟩
  | @issue _ k e p v hlist he hissuing hcredit =>
    intro j d hd u hu hleaves
    have hports := stillIssues_setPort (s := s.setEntry k (some (e.issueNext v s.completionTimeout))) (p := p) (y := { s.port p with
      tagsInUse := (s.port p).tagsInUse.set v.val true
      issueList := if e.issued + 1 < e.pieces.length then (s.port p).issueList else (s.port p).issueList.filter (· != k) })
      ⟨rfl, id⟩ d.port
    rw [State.entry_setPort, State.entry_setEntry] at hd
    have hold : (s.port d.port).Issuing ∧ u.val < (s.port d.port).credit := by
      split at hd
      · obtain rfl := Option.some.inj hd
        obtain ⟨e', he', hport, -⟩ := hshape.lists p k hlist
        obtain rfl : e = e' := Option.some.inj (he.symm.trans he')
        rcases List.mem_or_eq_of_mem_set (show PieceOutcome.outstanding u ∈ e.pieces.set e.issued (.outstanding v) from hu) with hmem | heq
        · exact hs k e he u hmem hleaves
        · obtain rfl : u = v := by simpa using heq
          exact ⟨hport ▸ hissuing, hport ▸ hcredit⟩
      · exact hs j d hd u hu hleaves
    exact ⟨hports.2 hold.1, hports.1.symm ▸ hold.2⟩
  | @complete _ k e i v st d flags he hpiece hd =>
    refine hs.of_old (fun j x hx u hu => ?_) fun q _ => stillIssues_setPort (s := s) (by exact ⟨rfl, id⟩) q
    rw [State.entry_setEntry] at hx
    split at hx
    next hjk =>
      obtain rfl := Option.some.inj hx
      refine ⟨e, hjk ▸ he, hd.port, ?_⟩
      rw [hd.pieces_eq] at hu
      rcases List.mem_or_eq_of_mem_set hu with hu | hu
      · exact hu
      · simp at hu
    next => exact ⟨x, hx, rfl, hu⟩
  | @disown _ k e he =>
    refine hs.of_old (fun j x hx u hu => ?_) fun _ _ => .refl _
    rw [State.entry_setEntry] at hx
    split at hx
    next hjk =>
      obtain rfl := Option.some.inj hx
      exact ⟨e, hjk ▸ he, rfl, hu⟩
    next => exact ⟨x, hx, rfl, hu⟩

/-! ### What is QUEUED and owes an answer, in the scope of a chain (R84) -/

/-- An entry that is QUEUED and owes an answer. -/
def Entry.Waits (e : Entry) : Prop :=
  e.issued = 0 ∧ e.owes ≠ none

/-- The law of purged slots, but for a claim on its way into motion. -/
def PurgedIn (o : Scope) (s : State) : Prop :=
  ∀ k e, s.entry k = some e → e.Waits → ∀ c, s.claim e.slot = some c → o ≠ .moving e.slot → c.phase.inMotion = false

theorem PurgedIn.of_old (hs : PurgedIn o s)
    (hentry : ∀ k d, t.entry k = some d → d.Waits → ∃ e, s.entry k = some e ∧ d.slot = e.slot ∧ e.Waits)
    (hclaim : ∀ n d, t.claim n = some d → o ≠ .moving n → d.phase.inMotion = true → ∃ c, s.claim n = some c ∧ c.phase.inMotion = true) :
    PurgedIn o t := by
  intro k d hd hwaits x hx hn
  obtain ⟨e, he, hslot, hewaits⟩ := hentry k d hd hwaits
  by_contra hmotion
  obtain ⟨c, hc, hcmotion⟩ := hclaim d.slot x hx hn (by simpa using hmotion)
  rw [hslot] at hc hn
  rw [hs k e he hewaits c hc hn] at hcmotion
  simp at hcmotion

theorem PurgedIn.claims (hs : PurgedIn o s) (hentry : ∀ k, t.entry k = s.entry k)
    (hclaim : ∀ n d, t.claim n = some d → o ≠ .moving n → d.phase.inMotion = true → ∃ c, s.claim n = some c ∧ c.phase.inMotion = true) :
    PurgedIn o t :=
  hs.of_old (fun k d hd hw => ⟨d, hentry k ▸ hd, rfl, hw⟩) hclaim

theorem PurgedIn.entries (hs : PurgedIn o s) (hclaim : ∀ n, t.claim n = s.claim n)
    (hentry : ∀ k d, t.entry k = some d → d.Waits → ∃ e, s.entry k = some e ∧ d.slot = e.slot ∧ e.Waits) : PurgedIn o t :=
  hs.of_old hentry fun n d hd _ hmotion => ⟨d, hclaim n ▸ hd, hmotion⟩

theorem PurgedIn.same (hs : PurgedIn o s) (hentry : ∀ k, t.entry k = s.entry k) (hclaim : ∀ n, t.claim n = s.claim n) : PurgedIn o t :=
  hs.claims hentry fun n d hd _ hmotion => ⟨d, hclaim n ▸ hd, hmotion⟩

/-- The claims are rewritten one by one, and none comes into motion. -/
theorem PurgedIn.map (hs : PurgedIn o s) {f : Claim → Claim} (hentry : ∀ k, t.entry k = s.entry k)
    (hclaim : ∀ n, t.claim n = (s.claim n).map f) (hphase : ∀ c, (f c).phase.inMotion = true → c.phase.inMotion = true) : PurgedIn o t := by
  refine hs.claims hentry fun n d hd _ hmotion => ?_
  rw [hclaim] at hd
  obtain ⟨c, hc, rfl⟩ := Option.map_eq_some_iff.mp hd
  exact ⟨c, hc, hphase c hmotion⟩

/-- A slot is written, with no claim that comes into motion but that of the scope. -/
theorem inMotion_setClaim {n : SlotNo} {d : Option Claim} (hclaim : ∀ m, t.claim m = if n = m then d else s.claim m)
    (hnew : ∀ e, d = some e → o ≠ .moving n → e.phase.inMotion = true → ∃ c, s.claim n = some c ∧ c.phase.inMotion = true) :
    ∀ m e, t.claim m = some e → o ≠ .moving m → e.phase.inMotion = true → ∃ c, s.claim m = some c ∧ c.phase.inMotion = true := by
  intro m e he hm hmotion
  rw [hclaim] at he
  split at he
  next hnm => exact hnm ▸ hnew e he (hnm ▸ hm) hmotion
  next => exact ⟨e, he, hmotion⟩

theorem Claim.inMotion_of_lowered {c d : Claim} (h : c.lowered = some d) (hmotion : d.phase.inMotion = true) :
    c.phase.inMotion = true := by
  unfold Claim.lowered at h
  split at h
  · rw [Claim.phase_of_settled h] at hmotion
    simp [Phase.inMotion] at hmotion
  · obtain rfl := Option.some.inj h
    exact hmotion

/-- A rewritten entry waits only if it did. -/
theorem waits_setEntry {k : EntryNo} {e d : Entry} (he : s.entry k = some e) (hslot : d.slot = e.slot) (hwaits : d.Waits → e.Waits)
    (hentry : ∀ j, t.entry j = if k = j then some d else s.entry j) :
    ∀ j x, t.entry j = some x → x.Waits → ∃ y, s.entry j = some y ∧ x.slot = y.slot ∧ y.Waits := by
  intro j x hx hw
  rw [hentry] at hx
  split at hx
  next hjk =>
    obtain rfl := Option.some.inj hx
    exact ⟨e, hjk ▸ he, hslot, hwaits hw⟩
  next => exact ⟨x, hx, rfl, hw⟩

/-- An access is queued for a LIVE claim (R51, R56). -/
theorem purgedIn_create {k : EntryNo} {e : Entry} {d : Claim} (hs : PurgedIn o s) (hlive : d.phase = .live)
    (hentry : ∀ j, t.entry j = if k = j then some e else s.entry j)
    (hclaim : ∀ m, t.claim m = if e.slot = m then some d else s.claim m) : PurgedIn o t := by
  intro j x hx hw y hy hn
  rw [hclaim] at hy
  split at hy
  next => rw [← Option.some.inj hy, hlive]; rfl
  next hslot =>
    rw [hentry] at hx
    split at hx
    next => exact absurd (Option.some.inj hx ▸ rfl) hslot
    next => exact hs j x hx hw y hy hn

theorem Move.purgedIn (h : Move o s t) (hs : PurgedIn o s) : PurgedIn o t := by
  cases h with
  | frame h => exact hs.same h.entry h.claim
  | record | halt | shut | holdStart | holdStop | setQuota | setHold | freeTags | clearList | setTiming =>
    exact hs.same (fun _ => rfl) fun _ => rfl
  | @setPool _ sp q => cases sp <;> exact hs.same (fun _ => rfl) fun _ => rfl
  | setIdle =>
    split
    · exact hs.same (fun k => State.entry_stopIdleTimers _ k) fun n => State.claim_stopIdleTimers _ n
    · exact hs.same (fun _ => rfl) fun _ => rfl
  | @orphan _ p => exact hs.map (fun _ => rfl) (s.claim_orphaned p) fun _ => Claim.inMotion_orphaned
  | @opening _ p => exact hs.map (fun _ => rfl) (s.claim_revived p) fun _ => Claim.inMotion_revived
  | @admitHost _ n | @admitBoard _ n =>
    refine hs.claims (fun _ => rfl) (inMotion_setClaim (fun m => s.claim_setClaim n m _) fun e he _ hmotion => ?_)
    simp [← Option.some.inj he, newClaim, Phase.inMotion] at hmotion
  | @retire _ _ n =>
    exact hs.claims (fun _ => rfl) (inMotion_setClaim (fun m => s.claim_setClaim n m none) fun e he => by simp at he)
  | @reshape _ n | @drain _ n =>
    exact hs.claims (fun _ => rfl) (inMotion_setClaim (fun m => s.claim_setClaim n m _) fun e he hn => absurd rfl hn)
  | @settle _ _ n c hc hmotion =>
    exact hs.claims (fun k => s.entry_afterSettle n c k) (inMotion_setClaim (fun m => s.claim_afterSettle n m c) fun _ _ _ _ => ⟨c, hc, hmotion⟩)
  | @release _ _ k e tags flags he =>
    refine hs.of_old (fun j d hd hw => ?_) (inMotion_setClaim (State.claim_lowered _ e.slot) fun d hd _ hmotion => ?_)
    · rw [State.entry_lowered, State.entry_setEntry] at hd
      split at hd
      · simp at hd
      · exact ⟨d, hd, rfl, hw⟩
    · obtain ⟨c, hc, hlowered⟩ := Option.bind_eq_some_iff.mp hd
      exact ⟨c, hc, Claim.inMotion_of_lowered hlowered hmotion⟩
  | @create _ k e n c p a hk hc hlive howner r kind sp he =>
    subst he
    exact purgedIn_create (e := newEntry r kind sp n p a) (d := { c with inFlight := c.inFlight + 1 }) hs hlive
      (fun j => s.entry_setEntry k j _) fun m => s.claim_setClaim n m _
  | @issue _ k e p v hlist he =>
    exact hs.entries (fun _ => rfl) (waits_setEntry (d := e.issueNext v s.completionTimeout) he rfl
      (fun hw => absurd hw.1 (Nat.succ_ne_zero _)) fun j => s.entry_setEntry k j _)
  | @complete _ k e i v st d flags he hpiece hd =>
    exact hs.entries (fun _ => rfl) (waits_setEntry he hd.slot (fun hw => ⟨hd.issued.symm.trans hw.1, hd.owes ▸ hw.2⟩)
      fun j => s.entry_setEntry k j _)
  | @disown _ k e he =>
    exact hs.entries (fun _ => rfl) (waits_setEntry (d := { e with owes := none }) he rfl (fun hw => absurd rfl hw.2)
      fun j => s.entry_setEntry k j _)

/-! ### The laws at the end of a stage -/

theorem outstandingLaw_of_leaves (hs : OutstandingIn o s)
    (h : ∀ p, o.leaves p → ∀ k e, s.entry k = some e → e.port = p → ∀ u : PieceTag, .outstanding u ∉ e.pieces) : OutstandingLaw s := by
  intro k e he u hu
  by_cases hp : o.leaves e.port
  · exact absurd hu (h e.port hp k e he rfl u)
  · obtain ⟨⟨hrun, hshake⟩, hlt⟩ := hs k e he u hu hp
    exact ⟨hrun, hshake, hlt⟩

theorem outstandingIn_of_law (o : Scope) (hs : OutstandingLaw s) : OutstandingIn o s :=
  fun k e he u hu _ =>
    let ⟨hrun, hshake, hlt⟩ := hs k e he u hu
    ⟨⟨hrun, hshake⟩, hlt⟩

/-- No piece of the port is issued once it has entered REALIGN (R85). -/
theorem issued_of_enterRealign {p : Port} {k : EntryNo} {e : Entry} (he : (s.enterRealign p).entry k = some e) (hport : e.port = p) :
    e.issued = 0 := by
  simp only [State.enterRealign, State.sendAlign_eq, State.retrainEntries, State.freeTags, State.entry_setPort,
    State.entry_modifyPort] at he
  exact issued_of_retrained he hport

/-- The laws of the entries' shape and of OUTSTANDING pieces together, in the scope of a chain. -/
def Issued (o : Scope) (s : State) : Prop :=
  EntryLaw s ∧ OutstandingIn o s

theorem Move.issued (h : Move o s t) (hs : Issued o s) : Issued o t :=
  ⟨h.entryLaw hs.1, h.outstandingIn ((entryLaw_iff s).mp hs.1).2 hs.2⟩

theorem outstandingLaw_of_noEntryOf {p : Port} (hs : OutstandingIn (.closing p) s) (hnone : NoEntryOf s p) : OutstandingLaw s := by
  refine outstandingLaw_of_leaves hs fun q hq k e he hport => ?_
  rcases hq with hq | hq
  · simp at hq
  · obtain rfl := Scope.closing.inj hq
    exact absurd hport (hnone k e he)

theorem outstandingLaw_of_staying (ho : ∀ p, ¬ o.leaves p) (hs : OutstandingIn o s) : OutstandingLaw s :=
  outstandingLaw_of_leaves hs fun p hp => absurd hp (ho p)

theorem outstandingLaw_enterRealign {p : Port} (hs : Issued (.realigning p) (s.enterRealign p)) : OutstandingLaw (s.enterRealign p) := by
  refine outstandingLaw_of_leaves hs.2 fun q hq k e he hport => ?_
  rcases hq with hq | hq
  · obtain rfl := Scope.realigning.inj hq
    exact (hs.1.2.1 k e he).not_outstanding (issued_of_enterRealign he hport)
  · simp at hq

theorem Stage.issued (h : Stage s t) : EntryLaw s ∧ OutstandingLaw s → EntryLaw t ∧ OutstandingLaw t := by
  have hstays (o : Scope) (ho : ∀ p, ¬ o.leaves p) (u : State) (hu : Issued o u) : EntryLaw u ∧ OutstandingLaw u :=
    ⟨hu.1, outstandingLaw_of_staying ho hu.2⟩
  exact h.keeps_in_scope (P := Issued) (fun o _ hu => ⟨hu.1, outstandingIn_of_law o hu.2⟩) (fun _ _ _ => Move.issued)
    (hstays .whole (by simp [Scope.leaves])) (fun _ _ _ hu => ⟨hu.1, outstandingLaw_enterRealign hu⟩)
    (fun u p _ hu => ⟨hu.1, outstandingLaw_of_noEntryOf hu.2 (noEntryOf_linkLoss u p)⟩)
    (fun u p st signalling _ hu => ⟨hu.1, outstandingLaw_of_noEntryOf hu.2 (noEntryOf_closePort u p st signalling)⟩)
    (fun _ n _ _ => hstays (.moving n) (by simp [Scope.leaves]) _) (fun _ n _ _ _ => hstays (.moving n) (by simp [Scope.leaves]) _)
    fun u hu => ⟨hu.entryLaw, fun k e he => by simp [hu.entry] at he⟩

/-- A purge leaves nothing that waits on the slot (R84). -/
theorem not_waits_of_purge {n : SlotNo} {st : Status} {k : EntryNo} {e : Entry} (he : (s.purge n st).entry k = some e)
    (hslot : e.slot = n) : ¬ e.Waits := by
  rintro ⟨hissued, howes⟩
  rw [State.purge, State.entry_endEntries, Option.filter_eq_some_iff] at he
  have hreached := he.2
  simp only [hslot, hissued, BEq.rfl, Bool.true_and, Bool.not_eq_true', Option.isSome_eq_false_iff, Option.isNone_iff_eq_none] at hreached
  exact howes hreached

theorem purgedLaw_of_purge {n : SlotNo} {st : Status} (hs : PurgedIn (.moving n) ((s.purge n st).settle n)) :
    PurgedLaw ((s.purge n st).settle n) := by
  intro k e he hissued howes c hc
  refine hs k e he ⟨hissued, howes⟩ c hc fun hn => ?_
  rw [State.entry_settle] at he
  exact not_waits_of_purge he (Scope.moving.inj hn).symm ⟨hissued, howes⟩

theorem purgedLaw_of_not_moving (ho : ∀ n, o ≠ .moving n) (hs : PurgedIn o s) : PurgedLaw s :=
  fun k e he hissued howes c hc => hs k e he ⟨hissued, howes⟩ c hc (ho e.slot)

theorem Stage.purgedLaw (h : Stage s t) : PurgedLaw s → PurgedLaw t :=
  h.keeps_in_scope (P := PurgedIn) (fun o u hu k e he hw c hc _ => hu k e he hw.1 hw.2 c hc) (fun _ _ _ => Move.purgedIn)
    (fun _ => purgedLaw_of_not_moving (by simp)) (fun _ _ _ => purgedLaw_of_not_moving (by simp))
    (fun _ _ _ => purgedLaw_of_not_moving (by simp)) (fun _ _ _ _ _ => purgedLaw_of_not_moving (by simp))
    (fun _ _ _ _ => purgedLaw_of_purge) (fun _ _ _ _ _ => purgedLaw_of_purge) fun u hu k e he => by simp [hu.entry] at he

theorem Fresh.pieceTagLaw (h : Fresh t) : PieceTagLaw t :=
  ⟨fun k e he => by simp [h.entry] at he, fun j k _ d e hd => by simp [h.entry] at hd⟩

theorem Stage.tagged (h : Stage s t) : EntryLaw s ∧ PieceTagLaw s → EntryLaw t ∧ PieceTagLaw t :=
  h.keeps_of_moves (P := fun u => EntryLaw u ∧ PieceTagLaw u)
    (fun _ _ _ hmove hu => ⟨hmove.entryLaw hu.1, hmove.pieceTagLaw ((entryLaw_iff _).mp hu.1).2 hu.2⟩) fun _ hu =>
      ⟨hu.entryLaw, hu.pieceTagLaw⟩

/-- Settles O57: the shape and the tags move by move, OUTSTANDING pieces and purged slots stage by stage. -/
theorem stepKeepsEntryShape : Obligations.StepKeepsEntryShape :=
  fun _ _ hs h =>
    ⟨step_keeps_of_moves (fun _ _ _ => Move.entryLaw) (fun _ => Fresh.entryLaw) h hs,
      fun htags => (step_keeps (fun _ _ => Stage.tagged) h ⟨hs, htags⟩).2,
      fun hissued => (step_keeps (fun _ _ => Stage.issued) h ⟨hs, hissued⟩).2,
      step_keeps (fun _ _ => Stage.purgedLaw) h⟩

end Sys2Proof.Machine
end

section
/-! PROOFS. Power-on reset fills the claim table, and the state after reset meets every law. -/

namespace Sys2Proof.Machine

open Sys2Proof

theorem fresh_poweredOn (s : State) (winsel : BitVec 4) : Fresh (s.poweredOn winsel) :=
  ⟨rfl, rfl, fun p => ⟨(s.port p).present, s.port_poweredOn winsel p⟩, rfl, rfl, rfl, rfl, rfl⟩

theorem fresh_reset : Fresh State.reset :=
  ⟨rfl, rfl, fun p => ⟨false, by simp [State.reset, State.powerOn, State.port, PortRecord.reset]⟩, rfl, rfl, rfl, rfl, rfl⟩

/-- Settles O4, by the laws of a state right after reset. -/
theorem powerOnResetFillsClaimTable : Obligations.PowerOnResetFillsClaimTable := by
  intro winsel s
  have hfresh := fresh_poweredOn s winsel
  refine ⟨s.poweredOn winsel, exec_powerOnReset winsel s, hfresh.windowLaw.1, fun n hn => ?_, rfl, rfl, fun p => ?_, hfresh.windowLaw,
    hfresh.overlapLaw, hfresh.quotaLaw, hfresh.handleLaw, hfresh.boundLaw.1⟩
  · rw [hfresh.claim, if_neg hn]
  · rw [State.port_poweredOn]
    exact ⟨rfl, rfl⟩

variable {t : State}

theorem Fresh.tagLaw (h : Fresh t) : TagLaw t :=
  fun j k _ d e hd => by simp [h.entry] at hd

theorem Fresh.owingEntries (h : Fresh t) : t.owingEntries = 0 := by
  unfold State.owingEntries
  simp [h.entry]

theorem Fresh.outstandingLaw (h : Fresh t) : OutstandingLaw t :=
  fun k e he => by simp [h.entry] at he

theorem Fresh.purgedLaw (h : Fresh t) : PurgedLaw t :=
  fun k e he => by simp [h.entry] at he

theorem attnFollows_reset : AttnFollows State.reset := by
  simp [AttnFollows, State.attnCondition, State.reset, State.powerOn]

theorem completionRoom_reset : CompletionRoom State.reset := by
  rw [CompletionRoom, fresh_reset.owingEntries]
  exact Nat.zero_le _

/-- Settles O7: each law holds of a table with the window's claim, no entry, and ports after reset. -/
theorem resetMeetsEveryLaw : Obligations.ResetMeetsEveryLaw :=
  have h := fresh_reset
  ⟨attnFollows_reset, h.windowLaw, h.overlapLaw, h.quotaLaw, h.handleLaw, h.settingsLaw, h.boundLaw, h.tagLaw, completionRoom_reset,
    h.handshakeLaw, h.sessionLaw, h.closedListsLaw, h.idleTimerLaw, h.receiveRoom, h.entryLaw, h.pieceTagLaw, h.outstandingLaw,
    h.boards.2.2, h.purgedLaw⟩

end Sys2Proof.Machine
end

section
/-! PROOFS. The settings commands (R20, R118, R136, R165 to R168). -/

namespace Sys2Proof.Machine

open Sys2Proof

variable {s : State}

theorem State.commandSetQuota_stored {p : Port} (harg : s.latched.arg0.toNat = p.val)
    (h : (s.port p).claimCount ≤ s.latched.arg1.toNat) :
    s.commandSetQuota =
      (s.setPort p { s.port p with quota := s.latched.arg1.toNat }).concluded 1 s.latched.arg1 0 0 0 := by
  simp only [State.commandSetQuota, portOf_eq harg, if_neg (Nat.not_lt.mpr h), State.finishCommand_eq, wordOf_toNat]
  rfl

theorem State.commandSetQuota_refused {p : Port} (harg : s.latched.arg0.toNat = p.val)
    (h : s.latched.arg1.toNat < (s.port p).claimCount) : s.commandSetQuota = s.concluded 2 17 0 0 0 := by
  simp only [State.commandSetQuota, portOf_eq harg, if_pos h]
  rfl

theorem State.commandSetHold_eq {p : Port} (harg : s.latched.arg0.toNat = p.val) :
    s.commandSetHold =
      (s.setPort p { s.port p with holdTime := s.latched.arg1.toNat }).concluded 1 s.latched.arg1 0 0 0 := by
  simp only [State.commandSetHold, portOf_eq harg, State.finishCommand_eq, wordOf_toNat]
  rfl

theorem State.commandSetPool_eq {sp : Space} (harg : s.latched.arg0.toNat = sp.code) :
    s.commandSetPool =
      (s.setPool sp ⟨s.latched.arg1.toNat, s.latched.arg2.toNat⟩).concluded 1 s.latched.arg1 s.latched.arg2 0 0 := by
  simp only [State.commandSetPool, (spaceOfCode_eq_some_iff _ _).mpr harg, State.finishCommand_eq, wordOf_toNat]
  rfl

theorem State.commandSetTiming_completion (h : s.latched.arg0.toNat = 1) :
    s.commandSetTiming = State.concluded { s with completionTimeout := s.latched.arg1.toNat } 1 s.latched.arg1 0 0 0 := by
  simp only [State.commandSetTiming, h, State.finishCommand_eq, wordOf_toNat]
  rfl

theorem State.commandSetTiming_realign (h : s.latched.arg0.toNat = 3) :
    s.commandSetTiming = State.concluded { s with realignLimit := s.latched.arg1.toNat } 1 s.latched.arg1 0 0 0 := by
  simp only [State.commandSetTiming, h, State.finishCommand_eq, wordOf_toNat]
  rfl

theorem State.commandSetTiming_idle (h : s.latched.arg0.toNat = 2) (hv : s.latched.arg1.toNat ≠ 0) :
    s.commandSetTiming = State.concluded { s with dozeIdleTime := s.latched.arg1.toNat } 1 s.latched.arg1 0 0 0 := by
  simp only [State.commandSetTiming, h, if_neg hv, State.finishCommand_eq, wordOf_toNat]
  rfl

/-- R118: every doze idle timer stops. -/
theorem State.stopIdleTimers_eq (s : State) :
    s.stopIdleTimers = { s with ports := s.ports.map fun x => { x with dozeIdleTimer := none } } := by
  have hports : s.stopIdleTimers.ports = s.ports.map fun x => { x with dozeIdleTimer := none } := by
    refine Vector.ext fun i hi => ?_
    rw [Vector.getElem_map]
    exact State.stopIdleTimers_port s ⟨i, hi⟩
  rw [State.stopIdleTimers_frame, hports]

theorem State.commandSetTiming_off (h : s.latched.arg0.toNat = 2) (hv : s.latched.arg1.toNat = 0) :
    s.commandSetTiming = State.concluded
      { s with dozeIdleTime := 0, ports := s.ports.map fun x => { x with dozeIdleTimer := none } } 1 0 0 0 0 := by
  simp only [State.commandSetTiming, h, hv, if_true, State.stopIdleTimers_eq]
  rfl

/-- Settles O29: each settings command by its arguments, whose range holds by hypothesis. -/
theorem settingsCommandsStore : Obligations.SettingsCommandsStore := by
  intro s tag w r hready i
  have hexec : ∀ c : HostCommand, r.code.toNat = c.code → ¬ ArgumentOutOfRange c r →
      exec (issueRowOf (some c) tag w) s = .next ((i.perform c).answered tag .ok []) := fun c => exec_command_ready hready
  obtain ⟨-, -, rfl⟩ := hready
  refine ⟨fun p hcode harg hle => ?_, fun p hcode harg hle => ?_, fun hcode hgood => ?_, fun hcode hgood => ?_⟩
  · have hq := hexec .setQuota hcode (by simp only [ArgumentOutOfRange]; omega)
    refine ⟨fun h => hq.trans ?_, fun h => hq.trans ?_⟩
    · rw [State.perform, State.commandSetQuota_stored (s := i) harg h]
      rfl
    · rw [State.perform, State.commandSetQuota_refused (s := i) harg h]
  · refine (hexec .setHold hcode (by simp only [ArgumentOutOfRange]; omega)).trans ?_
    rw [State.perform, State.commandSetHold_eq (s := i) harg]
    rfl
  · refine (hexec .setPool hcode hgood).trans ?_
    have hspace : (recordFound w s.command).arg0.toNat = 1 ∨ (recordFound w s.command).arg0.toNat = 2 := by
      simp only [ArgumentOutOfRange] at hgood
      omega
    rcases hspace with h | h
    · rw [State.perform, State.commandSetPool_eq (s := i) (sp := .mem) h, if_pos h]
      rfl
    · rw [State.perform, State.commandSetPool_eq (s := i) (sp := .io) h, if_neg (by omega)]
      rfl
  · have ht := hexec .setTiming hcode hgood
    refine ⟨fun h => ht.trans ?_, fun h hv => ht.trans ?_, fun h hv => ht.trans ?_, fun h => ht.trans ?_⟩
    · rw [State.perform, State.commandSetTiming_completion (s := i) h]
      rfl
    · rw [State.perform, State.commandSetTiming_idle (s := i) h fun h0 => hv (BitVec.eq_of_toNat_eq h0)]
      rfl
    · rw [State.perform, State.commandSetTiming_off (s := i) h (congrArg BitVec.toNat hv)]
      rfl
    · rw [State.perform, State.commandSetTiming_realign (s := i) h]
      rfl

end Sys2Proof.Machine
end

section
/-! PROOFS. The shape test, the pool test, the free slot and the room check, each against its statement, and HOST_CLAIM (R1, R6, R14,
R17, R18, R158). -/

namespace Sys2Proof.Machine

open Sys2Proof

variable {s : State}

/-! ### The tests of an admission -/

theorem shapeGood_iff (sp : Space) (base : Option Nat) (size : Nat) (width : Option Nat) :
    shapeGood sp base size width = true ↔ GoodShape sp base size width := by
  cases base <;> cases width <;> simp [shapeGood, GoodShape, and_assoc]

theorem Pool.holds_iff (q : Pool) (base : Option Nat) (size : Nat) : q.holds base size = true ↔ InPool q base size := by
  cases base <;> simp [Pool.holds, InPool]

theorem State.freeSlot_lowest {n : SlotNo} (h : LowestFreeSlot s n) : s.freeSlot = some n := by
  obtain ⟨hn, hfree, hlow⟩ := h
  rw [State.freeSlot, allSlots, ← Fin.find?_eq_find?_finRange, Fin.find?_eq_some_iff]
  refine ⟨by simp [hn, hfree], fun m hm => ?_⟩
  by_cases h0 : m = 0
  · simp [h0]
  · simpa [h0, Option.isSome_iff_ne_none] using hlow m h0 hm

theorem State.freeSlot_none_iff : s.freeSlot = none ↔ NoFreeSlot s := by
  simp [State.freeSlot, NoFreeSlot, List.find?_eq_none, mem_allSlots]

theorem extentsMeet_eq_false_iff (b z : Nat) (x : Nat × Nat) : extentsMeet (b, z) x = false ↔ b + z ≤ x.1 ∨ x.1 + x.2 ≤ b := by
  simp only [extentsMeet, Bool.and_eq_false_iff, decide_eq_false_iff_not, not_lt]
  exact or_comm

theorem State.overlaps_eq_false_iff (sp : Space) (b z : Nat) (leaveOut : Option SlotNo) :
    s.overlaps sp b z leaveOut = false ↔ Vacant s sp b z leaveOut := by
  refine ⟨fun h n c hc hn hsp x hx => (extentsMeet_eq_false_iff b z x).mp (State.not_meet_of_not_overlaps h hc hn hsp hx),
    fun h => List.any_eq_false.mpr fun n _ => ?_⟩
  cases hc : s.claim n with
  | none => simp
  | some c =>
    rw [Bool.not_eq_true, Bool.and_eq_false_iff, bne_eq_false_iff_eq, Claim.meets, Bool.and_eq_false_iff, beq_eq_false_iff_ne]
    by_cases hn : some n = leaveOut
    · exact .inl hn
    · by_cases hsp : c.space = sp
      · refine .inr (.inr (List.any_eq_false.mpr fun x hx => ?_))
        rw [Bool.not_eq_true, extentsMeet_eq_false_iff]
        exact h n c hc hn hsp x hx
      · exact .inr (.inl hsp)

/-! ### Placement (R18) -/

theorem firstFit_lowest {fits : Nat → Bool} {granule : Nat} {k count candidate : Nat} (hk : k < count)
    (hfits : fits (candidate + k * granule) = true) (hlow : ∀ j, j < k → fits (candidate + j * granule) = false) :
    firstFit fits granule count candidate = some (candidate + k * granule) := by
  induction count generalizing k candidate with
  | zero => omega
  | succ count ih =>
    cases k with
    | zero =>
      rw [Nat.zero_mul, Nat.add_zero] at hfits ⊢
      rw [firstFit, if_pos hfits]
      simp
    | succ k =>
      have hstep : ∀ j, candidate + (j + 1) * granule = candidate + granule + j * granule := fun j => by ring
      rw [hstep] at hfits ⊢
      have hfirst : fits candidate = false := by simpa using hlow 0 (by omega)
      rw [firstFit, hfirst, if_neg Bool.false_ne_true]
      exact ih (by omega) hfits fun j hj => by simpa only [hstep] using hlow (j + 1) (by omega)

theorem firstFit_none {fits : Nat → Bool} {granule : Nat} {count candidate : Nat}
    (h : ∀ j, j < count → fits (candidate + j * granule) = false) : firstFit fits granule count candidate = none := by
  induction count generalizing candidate with
  | zero => rfl
  | succ count ih =>
    have hfirst : fits candidate = false := by simpa using h 0 (by omega)
    rw [firstFit, hfirst, if_neg Bool.false_ne_true]
    refine ih fun j hj => ?_
    have hstep : candidate + granule + j * granule = candidate + (j + 1) * granule := by ring
    rw [hstep]
    exact h (j + 1) (by omega)

theorem Space.granule_pos (sp : Space) : 0 < sp.granule := by
  cases sp <;> decide

/-- The candidates are those that end in the pool. -/
theorem Pool.lt_candidates_iff (q : Pool) {granule : Nat} (hg : 0 < granule) (size k : Nat) :
    k < q.candidates granule size ↔ q.first + k * granule + size ≤ q.last + 1 := by
  unfold Pool.candidates
  split
  next hfits =>
    rw [Nat.lt_succ_iff, Nat.le_div_iff_mul_le hg]
    omega
  next hnot =>
    have := Nat.zero_le (k * granule)
    omega

theorem State.room_ok {sp : Space} {base : Option Nat} {size b : Nat} {leaveOut : Option SlotNo}
    (h : RoomFor s sp base size leaveOut b) : s.room sp base size leaveOut = .ok b := by
  unfold State.room
  cases base with
  | some x =>
    obtain ⟨rfl, hvacant⟩ := h
    simp [(State.overlaps_eq_false_iff ..).mpr hvacant]
  | none =>
    obtain ⟨k, rfl, hend, hvacant, hlow⟩ := h
    have hplace : s.place sp size leaveOut = some (candidateAt s sp k) := by
      refine firstFit_lowest ((Pool.lt_candidates_iff _ (Space.granule_pos sp) size k).mpr hend) ?_ fun j hj => ?_
      · rw [Bool.not_eq_true', State.overlaps_eq_false_iff]
        exact hvacant
      · rw [Bool.not_eq_false', ← Bool.not_eq_false, State.overlaps_eq_false_iff]
        exact hlow j hj
    simp only [hplace]

theorem State.room_error {sp : Space} {base : Option Nat} {size : Nat} {leaveOut : Option SlotNo} {r : Reason}
    (h : NoRoomFor s sp base size leaveOut r) : s.room sp base size leaveOut = .error r := by
  unfold State.room
  cases base with
  | some x =>
    obtain ⟨rfl, hnot⟩ := h
    rw [← State.overlaps_eq_false_iff, Bool.not_eq_false] at hnot
    simp [hnot]
  | none =>
    obtain ⟨rfl, hnot⟩ := h
    have hplace : s.place sp size leaveOut = none := by
      refine firstFit_none fun j hj => ?_
      rw [Bool.not_eq_false', ← Bool.not_eq_false, State.overlaps_eq_false_iff]
      exact hnot j ((Pool.lt_candidates_iff _ (Space.granule_pos sp) size j).mp hj)
    simp only [hplace]

/-! ### HOST_CLAIM by its checks (R158) -/

section HostClaim

variable {a : HostClaimArgs} {o : Owner} {sp : Space}

theorem State.commandHostClaim_noSpace (ha : s.latched.hostClaimArgs = a) (ho : a.owner = some o)
    (hsp : spaceOfCode a.spaceCode = none) : s.commandHostClaim = s.concluded 2 1 0 0 0 := by
  simp only [State.commandHostClaim, ha, ho, hsp]
  rfl

theorem State.commandHostClaim_badShape (ha : s.latched.hostClaimArgs = a) (ho : a.owner = some o)
    (hsp : spaceOfCode a.spaceCode = some sp) (hshape : ¬ GoodShape sp a.explicitBase a.size a.recordedWidth) :
    s.commandHostClaim = s.concluded 2 1 0 0 0 := by
  rw [← shapeGood_iff, Bool.not_eq_true] at hshape
  simp only [State.commandHostClaim, ha, ho, hsp, hshape]
  rfl

/-- HOST_CLAIM past the shape test: the port, the slot, the room. -/
theorem State.commandHostClaim_shaped (ha : s.latched.hostClaimArgs = a) (ho : a.owner = some o)
    (hsp : spaceOfCode a.spaceCode = some sp) (hshape : GoodShape sp a.explicitBase a.size a.recordedWidth) :
    s.commandHostClaim =
      if a.kindCode = 1 ∧ 7 < a.port then s.refuseCommand .badPort
      else
        match s.freeSlot with
        | none => s.refuseCommand .tableFull
        | some n =>
          match s.room sp a.explicitBase a.size none with
          | .error r => s.refuseCommand r
          | .ok b => (s.setClaim n (some (newClaim o sp b a.size))).finishCommand .done n.val b a.size := by
  simp only [State.commandHostClaim, ha, ho, hsp, (shapeGood_iff ..).mpr hshape]
  rfl

variable (ha : s.latched.hostClaimArgs = a) (ho : a.owner = some o) (hsp : spaceOfCode a.spaceCode = some sp)
  (hshape : GoodShape sp a.explicitBase a.size a.recordedWidth)
include ha ho hsp hshape

theorem State.commandHostClaim_badPort (hport : a.kindCode = 1 ∧ 7 < a.port) : s.commandHostClaim = s.concluded 2 10 0 0 0 := by
  rw [State.commandHostClaim_shaped ha ho hsp hshape, if_pos hport]
  rfl

theorem State.commandHostClaim_tableFull (hport : ¬ (a.kindCode = 1 ∧ 7 < a.port)) (hfull : NoFreeSlot s) :
    s.commandHostClaim = s.concluded 2 7 0 0 0 := by
  rw [State.commandHostClaim_shaped ha ho hsp hshape, if_neg hport, State.freeSlot_none_iff.mpr hfull]
  rfl

theorem State.commandHostClaim_noRoom (hport : ¬ (a.kindCode = 1 ∧ 7 < a.port)) (hfree : ¬ NoFreeSlot s) {r : Reason}
    (hroom : NoRoomFor s sp a.explicitBase a.size none r) : s.commandHostClaim = s.concluded 2 (wordOf r.code) 0 0 0 := by
  rw [← State.freeSlot_none_iff] at hfree
  obtain ⟨n, hn⟩ := Option.ne_none_iff_exists'.mp hfree
  simp only [State.commandHostClaim_shaped ha ho hsp hshape, if_neg hport, hn, State.room_error hroom]
  rfl

theorem State.commandHostClaim_admits (hport : ¬ (a.kindCode = 1 ∧ 7 < a.port)) {n : SlotNo} (hslot : LowestFreeSlot s n) {b : Nat}
    (hroom : RoomFor s sp a.explicitBase a.size none b) :
    s.commandHostClaim =
      (s.setClaim n (some (newClaim o sp b a.size))).concluded 1 (wordOf n.val) (wordOf b) (wordOf a.size) 0 := by
  simp only [State.commandHostClaim_shaped ha ho hsp hshape, if_neg hport, State.freeSlot_lowest hslot, State.room_ok hroom]
  rfl

end HostClaim

theorem toNat_wordByte_zero (w : Word) : (wordByte w 0).toNat = w.toNat % 0x100 := by
  simp [wordByte]

theorem toNat_wordByte_two (w : Word) : (wordByte w 2).toNat = w.toNat / 0x10000 % 0x100 := by
  simp [wordByte, Nat.shiftRight_eq_div_pow]

theorem toNat_wordByte_three (w : Word) : (wordByte w 3).toNat = w.toNat / 0x1000000 := by
  have hw := w.isLt
  simp only [wordByte, BitVec.toNat_setWidth, BitVec.toNat_ushiftRight, Nat.shiftRight_eq_div_pow]
  omega

theorem CommandRecord.hostClaimArgs_eq (r : CommandRecord) : r.hostClaimArgs =
    { spaceCode := r.arg0.toNat % 0x100
      kindCode := r.arg0.toNat / 0x100 % 0x100
      port := r.arg0.toNat / 0x10000 % 0x100
      width := r.arg0.toNat / 0x1000000
      base := r.arg1.toNat
      size := r.arg2.toNat
      any := r.arg3.getLsbD 0
      postingCode := r.arg3.toNat / 0x100 % 4
      wakeCode := r.arg3.toNat / 0x10000 % 4 } := by
  rw [CommandRecord.hostClaimArgs, toNat_wordByte_zero, toNat_wordByte_one, toNat_wordByte_two, toNat_wordByte_three]

/-- What a HOST_CLAIM asks, as the model reads its arguments. -/
theorem hostClaimArgs_of_asks {r : CommandRecord} {sp : Space} {o : Owner} {base : Option Nat} {size : Nat} {width : Option Nat}
    (h : HostClaimAsks r sp o base size width) :
    r.hostClaimArgs.owner = some o ∧ spaceOfCode r.hostClaimArgs.spaceCode = some sp ∧ r.hostClaimArgs.explicitBase = base ∧
      r.hostClaimArgs.size = size ∧ r.hostClaimArgs.recordedWidth = width ∧
      ¬ (r.hostClaimArgs.kindCode = 1 ∧ 7 < r.hostClaimArgs.port) := by
  obtain ⟨hsp, rfl, rfl, hkind⟩ := h
  rw [CommandRecord.hostClaimArgs_eq]
  rcases hkind with ⟨hk, rfl, rfl⟩ | ⟨hk, rfl, p, g, k, hp, hg, hw, rfl⟩
  · exact ⟨by simp only [HostClaimArgs.owner, hk], (spaceOfCode_eq_some_iff _ _).mpr hsp, rfl, rfl,
      by simp only [HostClaimArgs.recordedWidth, hk]; rfl, by simp only [hk]; omega⟩
  · refine ⟨?_, (spaceOfCode_eq_some_iff _ _).mpr hsp, rfl, rfl, if_pos hk, by simp only [← hp]; omega⟩
    have hposting : postingOfCode (r.arg3.toNat / 0x100 % 4) = some g := by
      rw [hg]
      cases g <;> rfl
    have hwake : wakeOfCode (r.arg3.toNat / 0x10000 % 4) = some k := by
      rw [hw]
      cases k <;> rfl
    have hport : (⟨r.arg0.toNat / 0x10000 % 0x100 % 8, Nat.mod_lt _ (by decide)⟩ : Port) = p :=
      Fin.ext (by simp only [← hp]; omega)
    simp only [HostClaimArgs.owner, hk, hposting, hwake, hport]

theorem inRange_of_owner {r : CommandRecord} {o : Owner} (h : r.hostClaimArgs.owner = some o) : ¬ ArgumentOutOfRange .hostClaim r := by
  simp [← badArgument_iff, badArgument, h]

/-- Settles O23: past the shape test and the port, the lowest FREE slot and the room are the ones named. -/
theorem hostClaimAdmitsHostOwner : Obligations.HostClaimAdmitsHostOwner := by
  intro s tag w r sp o base size width n b hready hcode hasks hshape hslot hroom
  obtain ⟨ho, hsp, rfl, rfl, rfl, hport⟩ := hostClaimArgs_of_asks hasks
  refine (exec_command_ready hready (c := .hostClaim) hcode (inRange_of_owner ho)).trans ?_
  obtain ⟨-, -, rfl⟩ := hready
  rw [State.perform, State.commandHostClaim_admits (s := s.issued w) rfl ho hsp hshape hport hslot hroom]
  rfl

/-- Settles O24: arguments in range describe an owner; then each check in its order. -/
theorem hostClaimRefusedInOrder : Obligations.HostClaimRefusedInOrder := by
  intro s tag w r hready hcode hgood refused kind width base size
  have hexec := exec_command_ready hready (c := .hostClaim) hcode hgood
  obtain ⟨o, ho⟩ : ∃ o, r.hostClaimArgs.owner = some o := by
    rw [← badArgument_iff] at hgood
    simpa [badArgument, ← Option.ne_none_iff_exists'] using hgood
  have hargs := r.hostClaimArgs_eq
  rw [hargs] at ho
  have hrefused : ∀ reason : Word, (s.issued w).commandHostClaim = (s.issued w).concluded 2 reason 0 0 0 → refused reason :=
    fun reason h => hexec.trans (by rw [State.perform, h])
  obtain ⟨-, -, rfl⟩ := hready
  refine ⟨fun hnone => hrefused 1 ?_, fun sp hsp hshape => ?_⟩
  · cases hsp : spaceOfCode ((recordFound w s.command).arg0.toNat % 0x100) with
    | none => exact State.commandHostClaim_noSpace (s := s.issued w) hargs ho hsp
    | some sp =>
      exact State.commandHostClaim_badShape (s := s.issued w) hargs ho hsp (hnone sp ((spaceOfCode_eq_some_iff _ _).mp hsp))
  · rw [← spaceOfCode_eq_some_iff] at hsp
    refine ⟨fun hport => hrefused 10 ?_, fun hport => ⟨fun hfull => hrefused 7 ?_, fun hfree => ⟨fun hroom => hrefused 8 ?_, fun hroom => hrefused 9 ?_⟩⟩⟩
    · exact State.commandHostClaim_badPort (s := s.issued w) hargs ho hsp hshape hport
    · exact State.commandHostClaim_tableFull (s := s.issued w) hargs ho hsp hshape hport hfull
    · exact State.commandHostClaim_noRoom (s := s.issued w) hargs ho hsp hshape hport hfree hroom
    · exact State.commandHostClaim_noRoom (s := s.issued w) hargs ho hsp hshape hport hfree hroom

end Sys2Proof.Machine
end

section
/-! PROOFS. A CLAIM taken: refused by the first check that fails, or admitted (R7, R26, R28 to R30). -/

namespace Sys2Proof.Machine

open Sys2Proof

variable {s : State} {p : Port}

/-! ### The message taken (R26, R29) -/

/-- The state in which the head of a port's receive list is taken. -/
def State.taken (s : State) (p : Port) (rest : List ClaimMessage) : State :=
  s.setPort p { s.port p with receiveList := rest }

theorem PortRecord.takeable_of_mayTake {m : ClaimMessage} {rest : List ClaimMessage} (h : MayTake s p m rest) :
    (s.port p).takeable = some m :=
  (PortRecord.takeable_eq_some_iff _ m).mpr ⟨h.1, ⟨rest, h.2.1⟩, h.2.2⟩

theorem State.dropHead_eq {m : ClaimMessage} {rest : List ClaimMessage} (h : (s.port p).receiveList = m :: rest) :
    s.dropHead p = s.taken p rest := by
  rw [State.dropHead, State.modifyPort_eq_setPort, h]
  rfl

theorem State.refuse_taken (hrun : (s.port p).state = .run) (rest : List ClaimMessage) (h : Handle) (r : Reason) :
    (s.taken p rest).refuse p h r =
      s.setPort p { s.port p with receiveList := rest, owed := (s.port p).owed ++ [.refuse h r] } := by
  rw [State.refuse, State.owe_run (by rw [State.taken, State.port_setPort_self]; exact hrun), State.taken, State.port_setPort_self,
    State.setPort_setPort]
  rfl

theorem exec_takeClaim {m : ClaimFields} {rest : List ClaimMessage} (h : MayTake s p (.claim m) rest) :
    exec (.takeClaim p) s = .next ((s.taken p rest).judgeClaim p m) := by
  rw [← State.dropHead_eq h.2.1]
  change execTakeClaim p s = _
  simp only [execTakeClaim, PortRecord.takeable_of_mayTake h]

theorem exec_takeReshape {m : ReshapeFields} {rest : List ClaimMessage} (h : MayTake s p (.reshape m) rest) :
    exec (.takeReshape p) s = .next ((s.taken p rest).judgeReshape p m) := by
  rw [← State.dropHead_eq h.2.1]
  change execTakeReshape p s = _
  simp only [execTakeReshape, PortRecord.takeable_of_mayTake h]

theorem exec_takeRelease {k : Handle} {rest : List ClaimMessage} (h : MayTake s p (.release k) rest) :
    exec (.takeRelease p) s = .next ((s.taken p rest).judgeRelease p k) := by
  rw [← State.dropHead_eq h.2.1]
  change execTakeRelease p s = _
  simp only [execTakeRelease, PortRecord.takeable_of_mayTake h]

/-! ### A CLAIM by its checks (R28) -/

section Judge

variable {m : ClaimFields} {sp : Space}

theorem State.judgeClaim_noSpace (hsp : spaceOfCode m.spaceCode.toNat = none) :
    s.judgeClaim p m = s.refuse p m.handle .badShape := by
  simp only [State.judgeClaim, hsp]

theorem State.judgeClaim_badShape (hsp : spaceOfCode m.spaceCode.toNat = some sp)
    (hshape : ¬ GoodShape sp (explicitBase m.any m.base) m.size.toNat (some m.width.toNat)) :
    s.judgeClaim p m = s.refuse p m.handle .badShape := by
  rw [← shapeGood_iff, Bool.not_eq_true, explicitBase] at hshape
  simp only [State.judgeClaim, hsp, hshape]
  rfl

variable (hsp : spaceOfCode m.spaceCode.toNat = some sp)
  (hshape : GoodShape sp (explicitBase m.any m.base) m.size.toNat (some m.width.toNat))
include hsp hshape

theorem State.judgeClaim_outOfPool (hpool : ¬ InPool (s.pool sp) (explicitBase m.any m.base) m.size.toNat) :
    s.judgeClaim p m = s.refuse p m.handle .outOfPool := by
  rw [← shapeGood_iff, explicitBase] at hshape
  rw [← Pool.holds_iff, Bool.not_eq_true, explicitBase] at hpool
  simp only [State.judgeClaim, hsp, hshape, hpool]
  rfl

variable (hpool : InPool (s.pool sp) (explicitBase m.any m.base) m.size.toNat)
include hpool

/-- A CLAIM past the shape and pool tests: the handle, the quota, the slot, the room. -/
theorem State.judgeClaim_shaped :
    s.judgeClaim p m =
      if (s.slotOfHandle p m.handle).isSome then s.refuse p m.handle .handleBusy
      else if (s.port p).claimCount = (s.port p).quota then s.refuse p m.handle .quota
      else
        match s.freeSlot with
        | none => s.refuse p m.handle .tableFull
        | some n =>
          match s.room sp (explicitBase m.any m.base) m.size.toNat none with
          | .error r => s.refuse p m.handle r
          | .ok b => s.admitBoard n p m.handle ((s.port p).identity.getD 0) m.attributes sp b m.size.toNat := by
  rw [← shapeGood_iff, explicitBase] at hshape
  rw [← Pool.holds_iff, explicitBase] at hpool
  simp only [State.judgeClaim, hsp, hshape, hpool]
  rfl

theorem State.judgeClaim_handleBusy (hbusy : ¬ HandleUnused s p m.handle) :
    s.judgeClaim p m = s.refuse p m.handle .handleBusy := by
  rw [← State.slotOfHandle_none, ← ne_eq, ← Option.isSome_iff_ne_none] at hbusy
  rw [State.judgeClaim_shaped hsp hshape hpool, if_pos hbusy]

variable (hunused : HandleUnused s p m.handle)
include hunused

theorem State.judgeClaim_quota (hquota : (s.port p).claimCount = (s.port p).quota) :
    s.judgeClaim p m = s.refuse p m.handle .quota := by
  rw [State.judgeClaim_shaped hsp hshape hpool, State.slotOfHandle_none.mpr hunused, if_neg (by simp), if_pos hquota]

variable (hquota : (s.port p).claimCount ≠ (s.port p).quota)
include hquota

theorem State.judgeClaim_tableFull (hfull : NoFreeSlot s) : s.judgeClaim p m = s.refuse p m.handle .tableFull := by
  rw [State.judgeClaim_shaped hsp hshape hpool, State.slotOfHandle_none.mpr hunused, if_neg (by simp), if_neg hquota,
    State.freeSlot_none_iff.mpr hfull]

theorem State.judgeClaim_noRoom (hfree : ¬ NoFreeSlot s) {r : Reason}
    (hroom : NoRoomFor s sp (explicitBase m.any m.base) m.size.toNat none r) : s.judgeClaim p m = s.refuse p m.handle r := by
  rw [← State.freeSlot_none_iff] at hfree
  obtain ⟨n, hn⟩ := Option.ne_none_iff_exists'.mp hfree
  rw [State.judgeClaim_shaped hsp hshape hpool, State.slotOfHandle_none.mpr hunused, if_neg (by simp), if_neg hquota, hn]
  simp only [State.room_error hroom]

theorem State.judgeClaim_admits {n : SlotNo} (hslot : LowestFreeSlot s n) {b : Nat}
    (hroom : RoomFor s sp (explicitBase m.any m.base) m.size.toNat none b) :
    s.judgeClaim p m = s.admitBoard n p m.handle ((s.port p).identity.getD 0) m.attributes sp b m.size.toNat := by
  rw [State.judgeClaim_shaped hsp hshape hpool, State.slotOfHandle_none.mpr hunused, if_neg (by simp), if_neg hquota,
    State.freeSlot_lowest hslot]
  simp only [State.room_ok hroom]

end Judge

/-! ### The admission (R7, R30) -/

theorem State.admitBoard_run (hrun : (s.port p).state = .run) (n : SlotNo) (h : Handle) (y : Word) (a : Attributes) (sp : Space)
    (b z : Nat) :
    s.admitBoard n p h y a sp b z =
      (s.setClaim n (some (newClaim (.board p h y a) sp b z))).portBecomes p
        (PortRecord.raising
          { s.port p with claimCount := (s.port p).claimCount + 1, owed := (s.port p).owed ++ [.grant h n sp b z] } 0x040) := by
  simp only [State.admitBoard, State.modifyPort_eq_setPort, State.port_setClaim]
  rw [State.owe_run (by rw [State.port_setPort_self]; exact hrun), State.raisePort_eq, State.port_setPort_self,
    State.setPort_setPort, State.port_setPort_self, State.portBecomes_setPort]
  rfl

/-- Settles O42: each check of a CLAIM in its order. -/
theorem takeClaimRefusesInOrder : Obligations.TakeClaimRefusesInOrder := by
  intro s p m rest htake x base size refused
  have hport : (s.taken p rest).port p = { x with receiveList := rest } := State.port_setPort_self ..
  have hrefused : ∀ r : Reason, (s.taken p rest).judgeClaim p m = (s.taken p rest).refuse p m.handle r → refused r :=
    fun r h => (exec_takeClaim htake).trans (by rw [h, State.refuse_taken htake.1])
  refine ⟨fun hnone => hrefused _ ?_, fun sp hsp hshape => ?_⟩
  · cases hsp : spaceOfCode m.spaceCode.toNat with
    | none => exact State.judgeClaim_noSpace hsp
    | some sp => exact State.judgeClaim_badShape hsp (hnone sp ((spaceOfCode_eq_some_iff _ _).mp hsp))
  rw [← spaceOfCode_eq_some_iff] at hsp
  refine ⟨fun hpool => hrefused _ (State.judgeClaim_outOfPool hsp hshape hpool), fun hpool =>
    ⟨fun hbusy => hrefused _ (State.judgeClaim_handleBusy hsp hshape hpool hbusy), fun hunused => ⟨fun hquota => hrefused _ ?_, fun hquota => ?_⟩⟩⟩
  · refine State.judgeClaim_quota hsp hshape hpool hunused ?_
    rw [hport]
    exact hquota
  · have hquota' : ((s.taken p rest).port p).claimCount ≠ ((s.taken p rest).port p).quota := by
      rw [hport]
      exact hquota
    exact ⟨fun hfull => hrefused _ (State.judgeClaim_tableFull hsp hshape hpool hunused hquota' hfull), fun hfree r hroom =>
      hrefused r (State.judgeClaim_noRoom (s := s.taken p rest) hsp hshape hpool hunused hquota' hfree hroom)⟩

/-- Settles O41: past every check, the claim is admitted in the lowest FREE slot at the base found. -/
theorem takeClaimAdmitsClaim : Obligations.TakeClaimAdmitsClaim := by
  intro s p m rest sp n b y htake x base size hy hsp hshape hpool hunused hquota hslot hroom
  have hport : (s.taken p rest).port p = { x with receiveList := rest } := State.port_setPort_self ..
  have hadmits := State.judgeClaim_admits (s := s.taken p rest) (p := p) ((spaceOfCode_eq_some_iff _ _).mpr hsp) hshape hpool hunused (by rw [hport]; exact hquota) hslot hroom
  rw [exec_takeClaim htake, hadmits, State.admitBoard_run (by rw [hport]; exact htake.1), hport]
  have hidentity : x.identity.getD 0 = y := by rw [hy]; rfl
  simp only [State.taken, hidentity, State.setClaim_setPort, State.portBecomes_setPort]
  rfl

end Sys2Proof.Machine
end

section
/-! PROOFS. HOST_RETIRE and REVOKE of a claim with nothing in flight (R10 to R12, R145, R159, R160). -/

namespace Sys2Proof.Machine

open Sys2Proof

variable {s : State} {n : SlotNo} {c : Claim}

/-! ### A drain that starts with nothing in flight (R10, R11) -/

theorem State.endEntries_of_none {reaches : Entry → Bool} (h : ∀ k e, s.entry k = some e → reaches e = false) (st : Status) :
    s.endEntries reaches st = s := by
  rw [State.endEntries_eq_foldl]
  refine List.foldl_fixed' (fun k => ?_) _
  rw [State.endIfReached]
  cases he : s.entry k with
  | none => rfl
  | some e => simp [Option.filter, h k e he]

theorem State.purge_of_nothingBound (h : NothingBound s n) (st : Status) : s.purge n st = s :=
  State.endEntries_of_none (fun k e he => by simp [h k e he]) st

theorem State.startDrain_empty (hrest : c.inFlight = 0) (hnone : NothingBound s n) (cause : RetireCause) :
    s.startDrain n c cause = s.completeDrain n { c with phase := .draining cause } cause := by
  have hpurge : (s.setClaim n (some { c with phase := .draining cause })).purge n .retired = _ :=
    State.purge_of_nothingBound (s := s.setClaim n (some { c with phase := .draining cause })) hnone _
  rw [State.startDrain, hpurge, State.settle, State.claim_setClaim_self]
  simp only [hrest, if_true, State.completeDrain, State.setClaim_setClaim]

theorem State.portBecomes_concluded (s : State) (p : Port) (x : PortRecord) (status w0 w1 w2 w3 : Word) :
    (s.concluded status w0 w1 w2 w3).portBecomes p x = (s.setPort p x).concluded status w0 w1 w2 w3 :=
  rfl

theorem State.concluded_portBecomes (s : State) (p : Port) (x : PortRecord) (status w0 w1 w2 w3 : Word) :
    (s.portBecomes p x).concluded status w0 w1 w2 w3 = (s.setPort p x).concluded status w0 w1 w2 w3 :=
  rfl

theorem State.port_concluded (s : State) (p : Port) (status w0 w1 w2 w3 : Word) :
    (s.concluded status w0 w1 w2 w3).port p = s.port p :=
  rfl

theorem State.countOut_eq (s : State) (p : Port) : s.countOut p = s.portBecomes p (countedOut (s.port p)) := by
  rw [State.countOut, State.modifyPort_eq_setPort, State.raisePort_eq, State.portBecomes_setPort, State.port_setPort_self]
  rfl

/-! ### HOST_RETIRE (R159) -/

theorem State.commandHostRetire_fixed (harg : s.latched.arg0.toNat = (0 : SlotNo).val) : s.commandHostRetire = s.concluded 2 13 0 0 0 := by
  simp only [State.commandHostRetire, slotOf_eq harg, if_true]
  rfl

section Slot

variable (harg : s.latched.arg0.toNat = n.val) (hn : n ≠ 0)
include harg hn

theorem State.commandHostRetire_free (hc : s.claim n = none) : s.commandHostRetire = s.concluded 2 14 0 0 0 := by
  simp only [State.commandHostRetire, slotOf_eq harg, if_neg hn, hc]
  rfl

theorem State.commandHostRetire_board (hc : s.claim n = some c) (hboard : c.isBoard = true) :
    s.commandHostRetire = s.concluded 2 11 0 0 0 := by
  simp only [State.commandHostRetire, slotOf_eq harg, if_neg hn, hc]
  cases howner : c.owner <;> simp [Claim.isBoard, howner] at hboard ⊢
  rfl

theorem State.commandHostRetire_drains (hc : s.claim n = some c) (hhost : c.owner = .fence ∨ ∃ p a, c.owner = .route p a) :
    s.commandHostRetire = s.startDrain n c .hostRetire := by
  simp only [State.commandHostRetire, slotOf_eq harg, if_neg hn, hc]
  rcases hhost with h | ⟨p, a, h⟩ <;> simp only [h]

theorem State.commandHostRetire_empty (hrun : s.running .hostRetire n.val = true) (hc : s.claim n = some c)
    (hhost : c.owner = .fence ∨ ∃ p a, c.owner = .route p a) (hrest : c.inFlight = 0) (hnone : NothingBound s n) :
    s.commandHostRetire = (s.setClaim n none).concluded 1 (wordOf n.val) 0 0 0 := by
  rw [State.commandHostRetire_drains harg hn hc hhost, State.startDrain_empty hrest hnone, State.completeDrain]
  have hreport := State.reportEnd_running (s := s.setClaim n none) hrun .done n.val
  rcases hhost with h | ⟨p, a, h⟩
  all_goals
    simp only [h]
    exact hreport

end Slot

/-- A command that an issue write has latched is the one that runs. -/
theorem State.running_issued {w : IssueWrite} {r : CommandRecord} {c : HostCommand} (hr : recordFound w s.command = r)
    (hcode : r.code.toNat = c.code) (harg : r.arg0.toNat = n.val) : (s.issued w).running c n.val = true := by
  subst hr
  simp only [State.running, State.issued, hcode, harg, BEq.rfl, Bool.and_self]

/-- Settles O25: the owner of the slot's claim decides, and a drain with nothing in flight completes at once. -/
theorem hostRetireJudgesSlot : Obligations.HostRetireJudgesSlot := by
  intro s tag w r n hready hcode harg refused
  have hexec : exec (.hostRetire tag w) s = .next ((s.issued w).commandHostRetire.answered tag .ok []) :=
    exec_command_ready hready (c := .hostRetire) hcode (by simp only [ArgumentOutOfRange]; omega)
  have hrun := State.running_issued (c := .hostRetire) hready.2.2 hcode harg
  obtain ⟨-, -, rfl⟩ := hready
  refine ⟨?_, fun hn hfree => hexec.trans ?_, fun c hn hc => ⟨fun hboard => hexec.trans ?_, fun hhost _ hrest hnone => hexec.trans ?_⟩⟩
  · rintro rfl
    exact hexec.trans (by rw [State.commandHostRetire_fixed (s := s.issued w) harg])
  · rw [State.commandHostRetire_free (s := s.issued w) harg hn hfree]
  · rw [State.commandHostRetire_board (s := s.issued w) harg hn hc hboard]
  · rw [State.commandHostRetire_empty (s := s.issued w) harg hn hrun hc hhost hrest hnone]
    rfl

/-! ### REVOKE (R145, R160) -/

theorem State.commandRevoke_fixed (harg : s.latched.arg0.toNat = (0 : SlotNo).val) : s.commandRevoke = s.concluded 2 13 0 0 0 := by
  simp only [State.commandRevoke, slotOf_eq harg, if_true]
  rfl

section Slot

variable (harg : s.latched.arg0.toNat = n.val) (hn : n ≠ 0)
include harg hn

theorem State.commandRevoke_free (hc : s.claim n = none) : s.commandRevoke = s.concluded 2 14 0 0 0 := by
  simp only [State.commandRevoke, slotOf_eq harg, if_neg hn, hc]
  rfl

theorem State.commandRevoke_host (hc : s.claim n = some c) (hhost : c.owner = .fence ∨ ∃ p a, c.owner = .route p a) :
    s.commandRevoke = s.concluded 2 12 0 0 0 := by
  simp only [State.commandRevoke, slotOf_eq harg, if_neg hn, hc]
  rcases hhost with h | ⟨p, a, h⟩
  all_goals
    simp only [h]
    rfl

variable {p : Port} {h : Handle} {y : Word} {a : Attributes}

theorem State.commandRevoke_draining (hc : s.claim n = some c) (howner : c.owner = .board p h y a) {cause : RetireCause}
    (hphase : c.phase = .draining cause) : s.commandRevoke = s.concluded 5 0 0 0 0 := by
  simp only [State.commandRevoke, slotOf_eq harg, if_neg hn, hc, howner, hphase]
  rfl

theorem State.commandRevoke_orphaned (hc : s.claim n = some c) (howner : c.owner = .board p h y a) (hphase : c.phase = .orphaned) :
    s.commandRevoke = s.revokeOrphan n p := by
  simp only [State.commandRevoke, slotOf_eq harg, if_neg hn, hc, howner, hphase]

theorem State.commandRevoke_drains (hc : s.claim n = some c) (howner : c.owner = .board p h y a)
    (hphase : c.phase = .live ∨ ∃ b z, c.phase = .reshaping b z) : s.commandRevoke = s.startDrain n c .revoke := by
  simp only [State.commandRevoke, slotOf_eq harg, if_neg hn, hc, howner]
  rcases hphase with hphase | ⟨b, z, hphase⟩ <;> simp only [hphase]

theorem State.commandRevoke_empty (hrun : s.running .revoke n.val = true) (hc : s.claim n = some c)
    (howner : c.owner = .board p h y a) (hphase : c.phase = .live ∨ ∃ b z, c.phase = .reshaping b z) (hrest : c.inFlight = 0)
    (hnone : NothingBound s n) (hlinked : (s.port p).state.linked = true) :
    s.commandRevoke =
      ((s.setClaim n none).setPort p (countedOut ((s.port p).owing (.revoked h)))).concluded 1 (wordOf n.val) 0 0 0 := by
  have hreport := State.reportEnd_running
    (s := (s.setClaim n none).setPort p ((s.port p).owing (.revoked h))) (c := .revoke) (n := n.val) hrun .done n.val
  rw [State.commandRevoke_drains harg hn hc howner hphase, State.startDrain_empty hrest hnone, State.completeDrain]
  simp only [howner]
  rw [State.owe_linked (by exact hlinked), State.port_setClaim, hreport, State.countOut_eq, State.portBecomes_concluded,
    State.setPort_setPort, State.port_concluded, State.port_setPort_self]
  rfl

end Slot

/-- The orphans left when one claim is retired at once. -/
theorem State.orphans_retireNow (p : Port) :
    ((s.retireNow n p).orphans p).isEmpty = true ↔ ∀ m d, m ≠ n → s.claim m = some d → d.isOrphanOf p = false := by
  rw [List.isEmpty_iff, List.eq_nil_iff_forall_not_mem]
  simp only [State.mem_orphans, State.retireNow_eq, State.claim_portBecomes, State.claim_setClaim]
  refine ⟨fun hnone m d hm hd => Bool.eq_false_iff.mpr fun horphan => hnone m ⟨d, ?_, horphan⟩, fun hnot m => ?_⟩
  · rw [if_neg (Ne.symm hm)]
    exact hd
  · rintro ⟨d, hd, horphan⟩
    split at hd
    · exact absurd hd.symm (Option.some_ne_none d)
    next hm => exact Bool.false_ne_true ((hnot m d (Ne.symm hm) hd).symm.trans horphan)

theorem State.revokeOrphan_last {p : Port} (hlast : ∀ m d, m ≠ n → s.claim m = some d → d.isOrphanOf p = false) :
    s.revokeOrphan n p =
      ((s.setClaim n none).setPort p { countedOut (s.port p) with holdTimer := none }).concluded 1 (wordOf n.val) 0 0 0 := by
  simp only [State.revokeOrphan, if_pos ((State.orphans_retireNow p).mpr hlast)]
  rw [State.retireNow_eq, State.modifyPort_eq_setPort, State.port_portBecomes_self, State.setPort_portBecomes _ _ _ _ (by rfl),
    State.finishCommand_eq, State.concluded_portBecomes]
  rfl

theorem State.revokeOrphan_other {p : Port} (hother : ∃ m d, m ≠ n ∧ s.claim m = some d ∧ d.isOrphanOf p = true) :
    s.revokeOrphan n p = ((s.setClaim n none).setPort p (countedOut (s.port p))).concluded 1 (wordOf n.val) 0 0 0 := by
  obtain ⟨m, d, hm, hd, horphan⟩ := hother
  have hnot : ¬ ((s.retireNow n p).orphans p).isEmpty = true := by
    rw [State.orphans_retireNow]
    exact fun hlast => Bool.false_ne_true ((hlast m d hm hd).symm.trans horphan)
  simp only [State.revokeOrphan, if_neg hnot]
  rw [State.retireNow_eq, State.finishCommand_eq, State.concluded_portBecomes]
  rfl

/-- Settles O26: the owner and the phase of the slot's claim decide; a drain with nothing in flight completes at once. -/
theorem revokeJudgesSlot : Obligations.RevokeJudgesSlot := by
  intro s tag w r n hready hcode harg ends i
  have hexec : exec (.revoke tag w) s = .next (i.commandRevoke.answered tag .ok []) :=
    exec_command_ready hready (c := .revoke) hcode (by simp only [ArgumentOutOfRange]; omega)
  have hrun := State.running_issued (c := .revoke) hready.2.2 hcode harg
  have hends : ∀ {status word0 : Word} {t : State}, i.commandRevoke = t.concluded status word0 0 0 0 → ends status word0 t :=
    fun h => hexec.trans (by rw [h])
  obtain ⟨-, -, rfl⟩ := hready
  refine ⟨?_, fun hn hfree => hends (State.commandRevoke_free (s := i) harg hn hfree), fun c hn hc =>
    ⟨fun hhost => hends (State.commandRevoke_host (s := i) harg hn hc hhost), fun p h y a howner =>
      ⟨fun cause hphase => hends (State.commandRevoke_draining (s := i) harg hn hc howner hphase), fun hphase hlast => hends ?_,
        fun hphase hother => hends ?_, fun hphase hrest hnone hlinked => hends ?_⟩⟩⟩
  · rintro rfl
    exact hends (State.commandRevoke_fixed (s := i) harg)
  · rw [State.commandRevoke_orphaned (s := i) harg hn hc howner hphase]
    exact State.revokeOrphan_last (s := i) hlast
  · rw [State.commandRevoke_orphaned (s := i) harg hn hc howner hphase]
    exact State.revokeOrphan_other (s := i) hother
  · exact State.commandRevoke_empty (s := i) harg hn hrun hc howner hphase hrest hnone hlinked

end Sys2Proof.Machine
end

section
/-! PROOFS. A RESHAPE taken, a RELEASE taken, and a drain or a reshape of a claim with accesses in flight (R8 to R11, R28 to R33, R84,
R159, R160). -/

namespace Sys2Proof.Machine

open Sys2Proof

variable {s : State} {n : SlotNo} {c : Claim} {p : Port}

/-! ### The purge of a slot (R84) -/

/-- The walk reads its test on the entries that stand alone. -/
theorem State.endEntries_congr {reaches reaches' : Entry → Bool} (h : ∀ k e, s.entry k = some e → reaches e = reaches' e)
    (st : Status) : s.endEntries reaches st = s.endEntries reaches' st := by
  have walk (l : List EntryNo) : ∀ t : State, (∀ k e, t.entry k = some e → reaches e = reaches' e) →
      l.foldl (State.endIfReached reaches st) t = l.foldl (State.endIfReached reaches' st) t := by
    induction l with
    | nil => exact fun t _ => rfl
    | cons k l ih =>
      intro t ht
      have hfilter : (t.entry k).filter reaches = (t.entry k).filter reaches' := by
        cases he : t.entry k with
        | none => rfl
        | some e => rw [Option.filter_some, Option.filter_some, ht k e he]
      have hstep : State.endIfReached reaches st t k = State.endIfReached reaches' st t k := by
        rw [State.endIfReached, hfilter, State.endIfReached]
      rw [List.foldl_cons, List.foldl_cons, hstep]
      refine ih _ fun j e he => ?_
      rw [State.endIfReached] at he
      cases hd : (t.entry k).filter reaches' with
      | none =>
        rw [hd] at he
        exact ht j e he
      | some d =>
        rw [hd, Option.elim_some, State.entry_endEntry] at he
        split at he
        · exact absurd he.symm (Option.some_ne_none e)
        · exact ht j e he
  rw [State.endEntries_eq_foldl, State.endEntries_eq_foldl]
  exact walk allEntries s h

theorem State.purge_eq (hattn : AttnFollows s) (hs : Accounted s) (hc : s.claim n = some c) (hport : c.port = some p) (st : Status) :
    s.purge n st = s.afterEnd p (queuedOf n) st := by
  have hentry : ∀ k e, s.entry k = some e → e.slot = n → e.port = p := by
    rintro k e he rfl
    obtain ⟨d, hd, hown⟩ := hs.claim_of_entry he
    obtain rfl := Option.some.inj (hc.symm.trans hd)
    exact Option.some.inj (hown.symm.trans hport)
  have hreaches : ∀ k e, s.entry k = some e →
      (e.slot == n && e.issued == 0 && e.owes.isSome) = (queuedOf n k e && e.port == p) := by
    intro k e he
    by_cases hslot : e.slot = n
    · simp [queuedOf, hslot, hentry k e he hslot, Bool.beq_eq_decide_eq]
    · simp [queuedOf, beq_false_of_ne hslot]
  rw [State.purge, State.endEntries_congr (reaches' := fun e => queuedOf n 0 e && e.port == p) hreaches,
    State.endEntries_eq_afterEnd hattn hs (p := p) fun e he => beq_iff_eq.mp (Bool.and_elim_right he)]
  refine State.afterEnd_congr (fun k => ?_) p st
  unfold State.reached
  cases he : s.entry k with
  | none => rfl
  | some e =>
    rw [Option.filter_some, Option.filter_some]
    by_cases hslot : e.slot = n
    · simp [queuedOf, hslot, hentry k e he hslot]
    · simp [queuedOf, hslot]

theorem Accounted.rephased (h : Accounted s) (hc : s.claim n = some c) (ph : Phase) :
    Accounted (s.setClaim n (some { c with phase := ph })) := by
  have hclaim : ∀ m, (s.setClaim n (some { c with phase := ph })).claim m = (s.claim m).map fun d =>
      if m = n then { d with phase := ph } else d := by
    intro m
    rw [State.claim_setClaim]
    by_cases hm : m = n
    · subst hm
      simp [hc]
    · simp [hm, Ne.symm hm]
  refine ⟨fun m => ?_, fun k e he => ?_, h.status⟩
  · revert m
    refine (inFlightLaw_iff _).mpr fun m => ?_
    have hm := (inFlightLaw_iff s).mp h.inFlight m
    rw [State.inFlightAt] at hm ⊢
    rw [hclaim]
    cases hd : s.claim m with
    | none =>
      rw [hd] at hm
      exact hm
    | some d =>
      rw [hd] at hm
      rw [Option.map_some]
      split <;> exact hm
  · obtain ⟨d, hd, hown⟩ := h.claim_of_entry he
    rw [hclaim, hd]
    simp only [Option.map_some, Option.bind_some]
    split <;> exact hown

/-- What a purge leaves at the slot does not settle once more. -/
theorem State.settle_afterEnd (hs : Accounted s) (hc : s.claim n = some c) (hflight : c.inFlight ≠ 0) (R : EntryNo → Entry → Bool)
    (st : Status) : (s.afterEnd p R st).settle n = s.afterEnd p R st := by
  refine settle_idle fun d hd hmotion hrest => ?_
  rw [State.claim_afterEnd, State.claimAfter] at hd
  have hle := s.endedAt_le R n
  rw [← hs.inFlight_eq hc] at hle
  split at hd
  next hstays =>
    rw [hc, Option.map_some] at hd
    obtain rfl := Option.some.inj hd
    have htest : (c.phase.inMotion && decide (0 < s.endedAt R n) && decide (c.inFlight = s.endedAt R n)) = true := by
      have hmotion' : c.phase.inMotion = true := hmotion
      have hrest' : c.inFlight - s.endedAt R n = 0 := hrest
      simp only [hmotion', Bool.true_and, Bool.and_eq_true, decide_eq_true_eq]
      omega
    rw [State.settling, hc, Option.filter_some, if_pos htest] at hstays
    exact Option.some_ne_none c hstays
  next b hset =>
    split at hd
    · obtain rfl := Option.some.inj hd
      exact Bool.false_ne_true hmotion
    all_goals exact absurd hd.symm (Option.some_ne_none d)

section InFlight

variable (hattn : AttnFollows s) (hs : Accounted s) (hc : s.claim n = some c) (hport : c.port = some p) (hflight : c.inFlight ≠ 0)
include hattn hs hc hport hflight

theorem State.purge_settle_eq (ph : Phase) (st : Status) :
    ((s.setClaim n (some { c with phase := ph })).purge n st).settle n =
      (s.setClaim n (some { c with phase := ph })).afterEnd p (queuedOf n) st := by
  have hattn' : AttnFollows (s.setClaim n (some { c with phase := ph })) := Eq.trans (b := s.attnCondition) hattn rfl
  have hs' := hs.rephased hc ph
  have hself := State.claim_setClaim_self s n (some { c with phase := ph })
  rw [State.purge_eq hattn' hs' hself (by exact hport), State.settle_afterEnd hs' hself hflight]

/-- A drain that starts with accesses in flight (R10, R84). -/
theorem State.startDrain_busy (cause : RetireCause) :
    s.startDrain n c cause = (s.setClaim n (some { c with phase := .draining cause })).afterEnd p (queuedOf n) .retired :=
  State.purge_settle_eq hattn hs hc hport hflight _ _

/-- A reshape accepted with accesses in flight (R8, R84). -/
theorem State.acceptReshape_busy (b z : Nat) :
    s.acceptReshape n c b z = (s.setClaim n (some { c with phase := .reshaping b z })).afterEnd p (queuedOf n) .moved :=
  State.purge_settle_eq hattn hs hc hport hflight _ _

end InFlight

theorem Accounted.nothingBound (hs : Accounted s) (hc : s.claim n = some c) (hrest : c.inFlight = 0) : NothingBound s n := by
  rintro k e he rfl
  have hpos := State.boundEntries_pos he
  rw [← hs.inFlight_eq hc, hrest] at hpos
  exact lt_irrefl 0 hpos

/-! ### The claim of a handle (R3) -/

theorem HandleLaw.slotOfHandle (hlaw : HandleLaw s) (hc : s.claim n = some c) {h : Handle} (hcarries : c.carries p h = true) :
    s.slotOfHandle p h = some n := by
  cases hslot : s.slotOfHandle p h with
  | none => exact absurd hcarries (by rw [State.slotOfHandle_none.mp hslot n c hc]; exact Bool.false_ne_true)
  | some m =>
    have hfound := List.find?_some hslot
    by_contra hne
    cases hd : s.claim m with
    | none => simp [hd] at hfound
    | some d =>
      simp only [hd] at hfound
      have := hlaw m n (fun h => hne (congrArg some h)) d c hd hc p h hfound
      exact Bool.false_ne_true (this.symm.trans hcarries)

theorem Claim.owner_of_carries {h : Handle} (hcarries : c.carries p h = true) : ∃ y a, c.owner = .board p h y a := by
  unfold Claim.carries at hcarries
  cases howner : c.owner with
  | board q k y a =>
    simp only [howner, Bool.and_eq_true, beq_iff_eq] at hcarries
    obtain ⟨rfl, rfl⟩ := hcarries
    exact ⟨y, a, rfl⟩
  | fixed | fence | route q a => simp [howner] at hcarries

theorem Claim.port_of_carries {h : Handle} (hcarries : c.carries p h = true) : c.port = some p := by
  obtain ⟨y, a, howner⟩ := Claim.owner_of_carries hcarries
  simp [Claim.port, howner]

/-! ### A RESHAPE by its checks (R28, R31) -/

section Reshape

variable {m : ReshapeFields} (hslot : s.slotOfHandle p m.handle = some n) (hc : s.claim n = some c)
include hslot hc

theorem State.judgeReshape_found : s.judgeReshape p m = s.judgeReshapeOf p m n c := by
  simp only [State.judgeReshape, hslot, hc]

theorem State.judgeReshape_badShape (hshape : ¬ GoodShape c.space (explicitBase m.any m.base) m.size.toNat none) :
    s.judgeReshape p m = s.refuse p m.handle .badShape := by
  rw [← shapeGood_iff, Bool.not_eq_true, explicitBase] at hshape
  simp only [State.judgeReshape_found hslot hc, State.judgeReshapeOf, hshape]
  rfl

variable (hshape : GoodShape c.space (explicitBase m.any m.base) m.size.toNat none)
include hshape

theorem State.judgeReshape_outOfPool (hpool : ¬ InPool (s.pool c.space) (explicitBase m.any m.base) m.size.toNat) :
    s.judgeReshape p m = s.refuse p m.handle .outOfPool := by
  rw [← shapeGood_iff, explicitBase] at hshape
  rw [← Pool.holds_iff, Bool.not_eq_true, explicitBase] at hpool
  simp only [State.judgeReshape_found hslot hc, State.judgeReshapeOf, hshape, hpool]
  rfl

variable (hpool : InPool (s.pool c.space) (explicitBase m.any m.base) m.size.toNat)
include hpool

/-- A RESHAPE past the shape and pool tests: the claim's phase and the room. -/
theorem State.judgeReshape_shaped :
    s.judgeReshape p m =
      if c.phase.inMotion then s.refuse p m.handle .busy
      else
        match s.room c.space (explicitBase m.any m.base) m.size.toNat (some n) with
        | .error r => s.refuse p m.handle r
        | .ok b => s.acceptReshape n c b m.size.toNat := by
  rw [← shapeGood_iff, explicitBase] at hshape
  rw [← Pool.holds_iff, explicitBase] at hpool
  simp only [State.judgeReshape_found hslot hc, State.judgeReshapeOf, hshape, hpool]
  rfl

theorem State.judgeReshape_busy (hmotion : c.phase.inMotion = true) : s.judgeReshape p m = s.refuse p m.handle .busy := by
  rw [State.judgeReshape_shaped hslot hc hshape hpool, if_pos hmotion]

theorem State.judgeReshape_noRoom (hmotion : c.phase.inMotion = false) {r : Reason}
    (hroom : NoRoomFor s c.space (explicitBase m.any m.base) m.size.toNat (some n) r) :
    s.judgeReshape p m = s.refuse p m.handle r := by
  rw [State.judgeReshape_shaped hslot hc hshape hpool, hmotion, if_neg Bool.false_ne_true]
  simp only [State.room_error hroom]

theorem State.judgeReshape_accepts (hmotion : c.phase.inMotion = false) {b : Nat}
    (hroom : RoomFor s c.space (explicitBase m.any m.base) m.size.toNat (some n) b) :
    s.judgeReshape p m = s.acceptReshape n c b m.size.toNat := by
  rw [State.judgeReshape_shaped hslot hc hshape hpool, hmotion, if_neg Bool.false_ne_true]
  simp only [State.room_ok hroom]

end Reshape

/-! ### A claim with nothing in flight, on a port in RUN (R9, R11) -/

theorem State.acceptReshape_empty (hrest : c.inFlight = 0) (hnone : NothingBound s n) (b z : Nat) :
    s.acceptReshape n c b z = s.commitReshape n { c with phase := .reshaping b z } b z := by
  have hpurge : (s.setClaim n (some { c with phase := .reshaping b z })).purge n .moved = _ :=
    State.purge_of_nothingBound (s := s.setClaim n (some { c with phase := .reshaping b z })) hnone _
  rw [State.acceptReshape, hpurge, State.settle, State.claim_setClaim_self]
  simp only [hrest, if_true, State.commitReshape, State.setClaim_setClaim]

theorem State.commitReshape_run (hrun : (s.port p).state = .run) {h : Handle} (hcarries : c.carries p h = true) (b z : Nat) :
    s.commitReshape n c b z =
      (s.setClaim n (some { c with base := b, size := z, phase := .live })).portBecomes p
        (PortRecord.raising { s.port p with owed := (s.port p).owed ++ [.grant h n c.space b z] } 0x040) := by
  obtain ⟨y, a, howner⟩ := Claim.owner_of_carries hcarries
  simp only [State.commitReshape, howner]
  rw [State.owe_run (by exact hrun), State.raisePort_eq, State.portBecomes_setPort, State.port_setPort_self, State.port_setClaim]
  rfl

theorem State.completeDrain_release (hrun : (s.port p).state = .run) {h : Handle} (hcarries : c.carries p h = true) :
    s.completeDrain n c .release =
      (s.setClaim n none).portBecomes p
        (PortRecord.raising
          { s.port p with owed := (s.port p).owed ++ [.released h], claimCount := (s.port p).claimCount - 1 } 0x040) := by
  obtain ⟨y, a, howner⟩ := Claim.owner_of_carries hcarries
  simp only [State.completeDrain, howner]
  rw [State.owe_run (by exact hrun), State.countOut_eq, State.portBecomes_setPort, State.port_setPort_self, State.port_setClaim]
  rfl

theorem EntriesSound.attnFollows_taken (h : EntriesSound s) (rest : List ClaimMessage) : AttnFollows (s.taken p rest) :=
  State.attnFollows_setPort h.attnFollows rfl

theorem EntriesSound.accounted_taken (h : EntriesSound s) (rest : List ClaimMessage) : Accounted (s.taken p rest) :=
  h.accounted.congr rfl rfl

/-- Settles O43: each check of a RESHAPE in its order; an accepted one commits, or purges its slot. -/
theorem takeReshapeMovesClaim : Obligations.TakeReshapeMovesClaim := by
  intro s p m rest htake hlaw x base size refused
  have hport : (s.taken p rest).port p = { x with receiveList := rest } := State.port_setPort_self ..
  have hrun : ((s.taken p rest).port p).state = .run := by
    rw [hport]
    exact htake.1
  have hexec := exec_takeReshape htake
  have hrefused : ∀ r : Reason, (s.taken p rest).judgeReshape p m = (s.taken p rest).refuse p m.handle r → refused r :=
    fun r h => hexec.trans (by rw [h, State.refuse_taken htake.1])
  refine ⟨fun hunused => hrefused _ ?_, fun n c hc hcarries => ?_⟩
  · have hnone : (s.taken p rest).slotOfHandle p m.handle = none := State.slotOfHandle_none.mpr hunused
    simp only [State.judgeReshape, hnone]
  have hslot : (s.taken p rest).slotOfHandle p m.handle = some n := HandleLaw.slotOfHandle (s := s.taken p rest) hlaw hc hcarries
  refine ⟨fun hshape => hrefused _ (State.judgeReshape_badShape hslot hc hshape), fun hshape =>
    ⟨fun hpool => hrefused _ (State.judgeReshape_outOfPool hslot hc hshape hpool), fun hpool =>
      ⟨fun hmotion => hrefused _ (State.judgeReshape_busy hslot hc hshape hpool hmotion), fun hmotion =>
        ⟨fun r hroom => hrefused r (State.judgeReshape_noRoom hslot hc hshape hpool hmotion hroom), fun b hroom hsound => ?_⟩⟩⟩⟩
  have haccepts := State.judgeReshape_accepts hslot hc hshape hpool hmotion hroom
  refine ⟨fun hrest => hexec.trans ?_, fun hflight => hexec.trans ?_⟩
  · rw [haccepts, State.acceptReshape_empty hrest (Accounted.nothingBound (hsound.accounted_taken rest) hc hrest),
      State.commitReshape_run hrun (h := m.handle) (by exact hcarries), hport, State.taken, State.setClaim_setPort,
      State.portBecomes_setPort]
  · rw [haccepts, State.acceptReshape_busy (hsound.attnFollows_taken rest) (hsound.accounted_taken rest) hc
      (Claim.port_of_carries hcarries) hflight]
    rfl

/-! ### A RELEASE by its checks (R28, R33), and the drains of R159 and R160 -/

theorem State.judgeRelease_found {h : Handle} (hslot : s.slotOfHandle p h = some n) (hc : s.claim n = some c) :
    s.judgeRelease p h = if c.phase.inMotion then s.refuse p h .busy else s.startDrain n c .release := by
  simp only [State.judgeRelease, hslot, hc]

theorem Claim.route_of_port (hport : c.port = some p) (hhost : c.isBoard = false) : ∃ q a, c.owner = .route q a := by
  cases howner : c.owner with
  | route q a => exact ⟨q, a, rfl⟩
  | fixed | fence | board => simp [Claim.port, Claim.isBoard, howner] at hport hhost

theorem Claim.owner_of_isBoard (hboard : c.isBoard = true) : ∃ q h y a, c.owner = .board q h y a := by
  cases howner : c.owner with
  | board q h y a => exact ⟨q, h, y, a, rfl⟩
  | fixed | fence | route => simp [Claim.isBoard, howner] at hboard

/-- Settles O44: RELEASE by its checks, and the drain of a claim with accesses in flight by each of its causes. -/
theorem retirementDrainsClaim : Obligations.RetirementDrainsClaim := by
  intro s hlaw hsound
  refine ⟨?_, ?_⟩
  · intro p h rest htake x refused
    have hxport : (s.taken p rest).port p = { x with receiveList := rest } := State.port_setPort_self ..
    have hrun : ((s.taken p rest).port p).state = .run := by
      rw [hxport]
      exact htake.1
    have hexec := exec_takeRelease htake
    have hrefused : ∀ r : Reason, (s.taken p rest).judgeRelease p h = (s.taken p rest).refuse p h r → refused r :=
      fun r hr => hexec.trans (by rw [hr, State.refuse_taken htake.1])
    refine ⟨fun hunused => hrefused _ ?_, fun n c hc hcarries => ?_⟩
    · have hnone : (s.taken p rest).slotOfHandle p h = none := State.slotOfHandle_none.mpr hunused
      simp only [State.judgeRelease, hnone]
    have hslot : (s.taken p rest).slotOfHandle p h = some n := HandleLaw.slotOfHandle (s := s.taken p rest) hlaw hc hcarries
    have hfound := State.judgeRelease_found hslot (by exact hc)
    refine ⟨fun hmotion => hrefused _ (by rw [hfound, if_pos hmotion]), fun hmotion hrest => hexec.trans ?_, fun hmotion hflight =>
      hexec.trans ?_⟩
    · rw [hfound, hmotion, if_neg Bool.false_ne_true,
        State.startDrain_empty hrest (Accounted.nothingBound (hsound.accounted_taken rest) hc hrest),
        State.completeDrain_release hrun (h := h) (by exact hcarries), hxport, State.taken, State.setClaim_setPort, State.portBecomes_setPort]
    · rw [hfound, hmotion, if_neg Bool.false_ne_true, State.startDrain_busy (hsound.attnFollows_taken rest)
        (hsound.accounted_taken rest) hc (Claim.port_of_carries hcarries) hflight]
      rfl
  · intro tag w r n c p hready harg hn hc hflight hport i
    have hdrains := State.startDrain_busy (s := i) (State.attnFollows_issued hsound.attnFollows w) (hsound.accounted.issued w) hc hport hflight
    refine ⟨fun hcode hhost _ => ?_, fun hcode hboard hphase => ?_⟩
    · have hexec : exec (.hostRetire tag w) s = .next (i.commandHostRetire.answered tag .ok []) :=
        exec_command_ready hready (c := .hostRetire) hcode (by simp only [ArgumentOutOfRange]; omega)
      obtain ⟨-, -, rfl⟩ := hready
      rw [hexec, State.commandHostRetire_drains (s := i) harg hn hc (.inr (Claim.route_of_port hport hhost)), hdrains]
    · have hexec : exec (.revoke tag w) s = .next (i.commandRevoke.answered tag .ok []) :=
        exec_command_ready hready (c := .revoke) hcode (by simp only [ArgumentOutOfRange]; omega)
      obtain ⟨-, -, rfl⟩ := hready
      obtain ⟨q, h, y, a, howner⟩ := Claim.owner_of_isBoard hboard
      rw [hexec, State.commandRevoke_drains (s := i) harg hn hc howner hphase, hdrains]

end Sys2Proof.Machine
end

section
/-! PROOFS. PORT_DISABLE and PORT_RESET (R86, R112, R113, R163). -/

namespace Sys2Proof.Machine

open Sys2Proof

variable {s : State} {p : Port}

/-- A port whose session is put to an end stands as its closed account says. -/
theorem State.closePort_eq (hattn : AttnFollows s) (hs : Accounted s) (p : Port) (st : PortState) (signalling : Timer) :
    s.closePort p st signalling = s.shut p st signalling := by
  have hattn1 : AttnFollows (s.sessionClosed p st signalling) := State.attnFollows_setPort hattn (p := p) rfl
  have hs1 : Accounted (s.sessionClosed p st signalling) := hs.congr rfl rfl
  rw [State.closePort, State.shut]
  simp only [State.retireWhere_eq_freed]
  refine congrArg (fun t : State => t.freed p fun c => c.isBoardOf p) ?_
  exact State.dropEntries_eq hattn1 hs1 p

theorem State.commandPortDisable_off (harg : s.latched.arg0.toNat = p.val) (hoff : (s.port p).state = .off) :
    s.commandPortDisable = s.concluded 1 0 0 0 0 := by
  simp only [State.commandPortDisable, portOf_eq harg, hoff]
  rfl

theorem State.commandPortDisable_closes (harg : s.latched.arg0.toNat = p.val) (hoff : (s.port p).state ≠ .off) :
    s.commandPortDisable = (s.closePort p .off none).concluded 1 0 0 0 0 := by
  simp only [State.commandPortDisable, portOf_eq harg]
  split
  next h => exact absurd h hoff
  all_goals exact State.finishCommand_eq (s.closePort p .off none) .done 0 0 0 0

theorem State.commandPortReset_off (harg : s.latched.arg0.toNat = p.val) (hoff : (s.port p).state = .off) :
    s.commandPortReset = s.concluded 2 15 0 0 0 := by
  simp only [State.commandPortReset, portOf_eq harg, hoff]
  rfl

theorem State.commandPortReset_closes (harg : s.latched.arg0.toNat = p.val) (hoff : (s.port p).state ≠ .off) :
    s.commandPortReset = s.closePort p .resetting (some 1000) := by
  simp only [State.commandPortReset, portOf_eq harg]
  split
  next h => exact absurd h hoff
  all_goals rfl

/-- Settles O31: in OFF both commands end; in any other state the session ends as its closed account says. -/
theorem disableAndResetEndSession : Obligations.DisableAndResetEndSession := by
  intro s p tag w r hready harg x i
  have hexec : ∀ c : HostCommand, r.code.toNat = c.code → ¬ ArgumentOutOfRange c r →
      exec (issueRowOf (some c) tag w) s = .next ((i.perform c).answered tag .ok []) := fun c => exec_command_ready hready
  obtain ⟨-, -, rfl⟩ := hready
  have hclosed : ∀ st signalling, EntriesSound s → i.closePort p st signalling = i.shut p st signalling :=
    fun st signalling hsound =>
      State.closePort_eq (State.attnFollows_issued hsound.attnFollows w) (hsound.accounted.issued w) p st signalling
  refine ⟨fun hcode => ?_, fun hcode => ?_⟩
  · have hd := hexec .portDisable hcode (by simp only [ArgumentOutOfRange]; omega)
    refine ⟨fun hoff => hd.trans ?_, fun hoff hsound => hd.trans ?_⟩
    · rw [State.perform, State.commandPortDisable_off (s := i) harg hoff]
    · rw [State.perform, State.commandPortDisable_closes (s := i) harg hoff, hclosed _ _ hsound]
  · have hr := hexec .portReset hcode (by simp only [ArgumentOutOfRange]; omega)
    refine ⟨fun hoff => hr.trans ?_, fun hoff hsound => hr.trans ?_⟩
    · rw [State.perform, State.commandPortReset_off (s := i) harg hoff]
    · rw [State.perform, State.commandPortReset_closes (s := i) harg hoff, hclosed _ _ hsound]

end Sys2Proof.Machine
end

section
/-! PROOFS. A queued access becomes an entry (R54, R56 to R58, R66, R67). -/

namespace Sys2Proof.Machine

open Sys2Proof

variable {s : State}

theorem isPostedWrite_iff (k : AccessKind) (a : Attributes) : isPostedWrite k a = true ↔ k.code = 2 ∧ a.posting = .posted := by
  cases k <;> simp [isPostedWrite, AccessKind.code]

/-- The entry that the model creates for a request of a known kind. -/
theorem newEntry_decode {r : HostRequest} {k : AccessKind} (hkind : requestKind r = k.code) (sp : Space) (n : SlotNo) (p : Port)
    (a : Attributes) : newEntry r.decode k sp n p a = entryFor r sp n p a := by
  cases k with
  | read =>
    have hread : requestKind r = 1 := hkind
    simp [newEntry, entryFor, isPostedWrite, hread, pieceCount]
    rfl
  | write =>
    have hwrite : requestKind r = 2 := hkind
    simp [newEntry, entryFor, isPostedWrite, hwrite, pieceCount, Bool.beq_eq_decide_eq]
    rfl

theorem State.freePlace_lowest {k : EntryNo} (h : LowestFreePlace s k) : s.freePlace = some k := by
  obtain ⟨hfree, hlow⟩ := h
  rw [State.freePlace, allEntries, ← Fin.find?_eq_find?_finRange, Fin.find?_eq_some_iff]
  exact ⟨by simp [hfree], fun j hj => by simpa [Option.isSome_iff_ne_none] using hlow j hj⟩

theorem State.createEntry_eq {k : EntryNo} {e : Entry} {c : Claim} (hc : s.claim e.slot = some c) (tag : HostTag) :
    s.createEntry k e tag =
      let queued : PortRecord :=
        { s.port e.port with issueList := (s.port e.port).issueList ++ [k], dozeIdleTimer := s.idleOf (s.port e.port) }
      let t := ((s.setEntry k (some e)).setClaim e.slot (some { c with inFlight := c.inFlight + 1 })).setPort e.port queued.afterWakeCause
      if e.posted then t.answered tag .ok [] else t := by
  have hincrement : (s.setEntry k (some e)).increment e.slot =
      (s.setEntry k (some e)).setClaim e.slot (some { c with inFlight := c.inFlight + 1 }) := by
    simp only [State.increment, State.claim_setEntry, hc]
  simp only [State.createEntry, hincrement, State.modifyPort_eq_setPort, State.restartIdle_eq, State.wakeCause_eq,
    State.port_setPort_self, State.setPort_setPort]
  rfl

theorem State.claimVerdict_queue {c : Claim} {p : Port} {a : Attributes} (howner : c.owner = .route p a ∨ ∃ h y, c.owner = .board p h y a)
    (h : atOnceStatus s c = none) (n : SlotNo) : s.claimVerdict n c = .queue n p a := by
  rw [atOnceStatus_eq s n] at h
  unfold State.claimVerdict at *
  rcases howner with howner | ⟨k, y, howner⟩
  all_goals
    simp only [howner] at h ⊢
    exact phaseVerdict_of_status_none h

/-- Settles O13: the verdict queues the access, and the entry takes the lowest free place. -/
theorem queuedAccessBecomesEntry : Obligations.QueuedAccessBecomesEntry := by
  intro s r sp n c p a k hrouted hn hc hcovers hlive howner hplace x queued t
  obtain ⟨hvalid, htag, hspace, ⟨kind, hkind⟩, -⟩ := decode_of_routed hrouted
  have hroute : s.route sp r.address.toNat = .queue n p a := by
    rw [State.route_covered hrouted.2.1 hc hcovers, if_neg hn, State.claimVerdict_queue howner hlive]
  have hcode : requestKind r = kind.code := (kindOfCode_eq_some_iff _ _).mp hkind
  have hcreate := State.createEntry_eq (s := s) (k := k) (e := entryFor r sp n p a) (by exact hc) (requestTag r)
  rw [HostRequest.tag_decode] at htag
  rw [exec_hostRequest_routed hrouted]
  simp only [State.takeRequest, hvalid, htag, hspace, hkind, Bool.false_eq_true, if_false, HostRequest.address_decode, hroute,
    State.freePlace_lowest hplace, newEntry_decode hcode, HostRequest.tag_decode, hcreate]
  exact congrArg Host.Outcome.next (if_congr decide_eq_true_iff rfl rfl)

end Sys2Proof.Machine
end

section
/-! PROOFS. A COMPLETE: the piece under its tag ends, and with its last piece the entry finishes (R74 to R80). -/

namespace Sys2Proof.Machine

open Sys2Proof

variable {s : State} {p : Port}

/-! ### The piece under a tag (R72, R74) -/

theorem PieceOutcome.holds_iff (o : PieceOutcome) (t : PieceTag) : o.holds t.val = true ↔ o = .outstanding t := by
  cases o with
  | outstanding u => simp [PieceOutcome.holds, Fin.ext_iff]
  | notIssued | ended => simp [PieceOutcome.holds]

theorem State.entryOfTag_eq {t : PieceTag} (hlaw : PieceTagLaw s) {k : EntryNo} {e : Entry} (he : s.entry k = some e)
    (hmem : .outstanding t ∈ e.pieces) : s.entryOfTag e.port t.val = some k := by
  cases hfind : s.entryOfTag e.port t.val with
  | none =>
    have hk := List.find?_eq_none.mp hfind k (mem_allEntries k)
    simp only [he, BEq.rfl, Bool.true_and, List.any_eq_true, not_exists, not_and, PieceOutcome.holds_iff] at hk
    exact absurd rfl (hk _ hmem)
  | some j =>
    by_contra hne
    have hj : j ≠ k := fun h => hne (congrArg some h)
    cases hd : s.entry j with
    | none => simpa [hd] using List.find?_some hfind
    | some d =>
      obtain ⟨hport, u, hu, hheld⟩ := State.entryOfTag_some hfind hd
      obtain rfl := Fin.ext hu
      exact hlaw.2 j k hj d e hd he hport u hheld hmem

theorem State.entryOfTag_none {tag : Nat}
    (h : ∀ k e t, s.entry k = some e → e.port = p → t.val = tag → PieceOutcome.outstanding t ∉ e.pieces) :
    s.entryOfTag p tag = none := by
  cases hfind : s.entryOfTag p tag with
  | none => rfl
  | some k =>
    cases he : s.entry k with
    | none => simpa [he] using List.find?_some hfind
    | some e =>
      obtain ⟨hport, t, ht, hmem⟩ := State.entryOfTag_some hfind he
      exact absurd hmem (h k e t he hport ht)

/-- A tag that one piece of the entry holds has one place. -/
theorem findIdx_holds {l : List PieceOutcome} {t : PieceTag} (hcount : l.count (.outstanding t) = 1) {i : Nat}
    (hi : l[i]? = some (.outstanding t)) : (l.findIdx fun o => o.holds t.val) = i := by
  have hj := getElem?_findIdx_holds (List.mem_of_getElem? hi)
  obtain ⟨hilt, hieq⟩ := List.getElem?_eq_some_iff.mp hi
  obtain ⟨hjlt, hjeq⟩ := List.getElem?_eq_some_iff.mp hj
  generalize (l.findIdx fun o => o.holds t.val) = j at *
  have hnot : ¬ List.Duplicate (.outstanding t) l := fun hdup => by
    have := List.duplicate_iff_two_le_count.mp hdup
    omega
  by_contra hne
  refine hnot (List.duplicate_iff_exists_distinct_get.mpr ?_)
  rcases Nat.lt_or_gt_of_ne hne with hlt | hlt
  · exact ⟨⟨j, hjlt⟩, ⟨i, hilt⟩, hlt, hjeq.symm, hieq.symm⟩
  · exact ⟨⟨i, hilt⟩, ⟨j, hjlt⟩, hlt, hieq.symm, hjeq.symm⟩

/-! ### The entry after its piece has ended (R75, R77, R78) -/

theorem Entry.judge_eq (e : Entry) (m : CompleteMsg) : e.judge m = if EndsOk e m then .ok else .boardError :=
  rfl

theorem Entry.note_boardError (e : Entry) (i : Nat) :
    e.note i .boardError =
      if e.setBy.all (fun j => decide (i < j)) = true then { e with status := .boardError, setBy := some i } else e := by
  unfold Entry.note
  rw [if_neg (by decide)]
  cases hset : e.setBy with
  | none => simp
  | some j => simp

theorem Entry.completePiece_eq (e : Entry) (i : Nat) (m : CompleteMsg) : e.completePiece i m = afterPiece e i m := by
  unfold Entry.completePiece afterPiece Entry.endPiece
  rw [Entry.judge_eq]
  by_cases hok : EndsOk e m
  · have hblames : ¬ (¬ EndsOk e m ∧ e.setBy.all (fun j => decide (i < j)) = true) := fun h => h.1 hok
    simp only [if_pos hok, if_neg hblames, if_true, Entry.note, Entry.store]
    cases hkind : e.kind with
    | read => simp only [true_and, if_pos hok, Entry.pieceWidth]
    | write => simp only [if_neg (show ¬ (AccessKind.write = .read ∧ EndsOk e m) from fun h => nomatch h.1)]
  · have hdata : ¬ (e.kind = .read ∧ EndsOk e m) := fun h => hok h.2
    simp only [if_neg hok, if_neg hdata, Entry.note_boardError, reduceCtorEq, if_false]
    by_cases hall : e.setBy.all (fun j => decide (i < j)) = true
    · simp only [if_pos hall, if_pos (show ¬ EndsOk e m ∧ e.setBy.all (fun j => decide (i < j)) = true from ⟨hok, hall⟩)]
    · simp only [if_neg hall, if_neg (show ¬ (¬ EndsOk e m ∧ e.setBy.all (fun j => decide (i < j)) = true) from fun h => hall h.2)]

theorem Entry.finished_iff {e : Entry} (h : EntryShape e) : e.finished = true ↔ ∀ o ∈ e.pieces, o.closed := by
  obtain ⟨-, hle, hopen, hissued, -⟩ := h
  rw [Entry.finished, Bool.and_eq_true, beq_iff_eq, Bool.not_eq_true', List.any_eq_false]
  refine ⟨fun ⟨hall, hnone⟩ o ho => ?_, fun hclosed => ⟨?_, fun o ho => ?_⟩⟩
  · rw [hall, List.take_length] at hissued
    cases o with
    | ended st => exact rfl
    | notIssued => exact absurd rfl (hissued _ ho)
    | outstanding t => exact absurd rfl (hnone _ ho)
  · by_contra hne
    have hlt : e.issued < e.pieces.length := by omega
    have hmem : e.pieces[e.issued] ∈ e.pieces.drop e.issued := by
      rw [List.drop_eq_getElem_cons hlt]
      exact List.mem_cons_self
    have hclosed' := hclosed _ (List.mem_of_mem_drop hmem)
    rw [hopen _ hmem] at hclosed'
    exact Bool.false_ne_true hclosed'
  · have ho' := hclosed o ho
    cases o with
    | ended st => exact Bool.false_ne_true
    | notIssued | outstanding t => exact absurd ho' Bool.false_ne_true

/-! ### An entry whose pieces have all ended finishes (R79, R80) -/

theorem Entry.endAll_of_closed {e : Entry} (h : ∀ o ∈ e.pieces, o.closed) (st : Status) : e.endAll st = e := by
  unfold Entry.endAll
  refine List.foldl_fixed' (fun k => ?_) _
  unfold Entry.endIfOpen
  cases hk : e.pieces[k]? with
  | none => rfl
  | some o =>
    have ho := h o (List.mem_of_getElem? hk)
    cases o with
    | ended => rfl
    | notIssued | outstanding => exact absurd ho Bool.false_ne_true

theorem releaseTags_of_closed {pieces : List PieceOutcome} (h : ∀ o ∈ pieces, o.closed) (tags : Vector Bool 8) :
    releaseTags tags pieces = tags := by
  refine Vector.ext fun i hi => ?_
  have hnot : PieceOutcome.outstanding ⟨i, hi⟩ ∉ pieces := fun hmem => Bool.false_ne_true (h _ hmem)
  have := getElem_releaseTags tags pieces ⟨i, hi⟩
  simpa [hnot] using this

theorem State.setEntry_finishEntry (s : State) (k : EntryNo) (e d : Entry) :
    (s.setEntry k (some e)).finishEntry k d = s.finishEntry k d := by
  have hfree (t : State) : (t.setEntry k (some e)).freeEntry k d = t.freeEntry k d := by
    simp only [State.freeEntry, State.modifyPort_eq_setPort, State.port_setEntry, State.setEntry_setPort, State.setEntry_setEntry]
  unfold State.finishEntry
  cases d.owes with
  | some tag => exact hfree (s.handOver _)
  | none =>
    dsimp only
    split
    · exact hfree (s.raisePort d.port .postedLost)
    · exact hfree s

theorem State.finishEntry_eq_afterEnd {k : EntryNo} {d : Entry} (hattn : AttnFollows s) (hs : Accounted s) (hd : s.entry k = some d)
    (hclosed : ∀ o ∈ d.pieces, o.closed) : s.finishEntry k d = s.afterEnd d.port (fun j _ => j == k) .ok := by
  rw [← State.endEntry_eq_afterEnd hattn hs hd, State.endEntry, Entry.endAll_of_closed hclosed, State.modifyPort_eq_setPort,
    releaseTags_of_closed hclosed, State.setPort_port]

/-! ### The COMPLETE taken (R74 to R76) -/

theorem exec_complete_arrives {seq : Byte} (harr : Arrives s p seq) (m : CompleteMsg) :
    exec (.complete p seq m) s = .next ((s.judged p).takeComplete p m) := by
  have hopen : (s.port p).state.receiverOpen = true := by
    rcases harr with h | h | ⟨h, -⟩
    · simp [h, PortState.receiverOpen]
    · simp [h, PortState.receiverOpen]
    · rcases h with h | h | h | h <;> simp [h, PortState.receiverOpen]
  exact (execComplete_open hopen seq m).trans (congrArg Host.Outcome.next (State.receive_arrives harr _))

theorem EntriesSound.attnFollows_judged (h : EntriesSound s) (p : Port) : AttnFollows (s.judged p) := by
  unfold State.judged
  split
  · exact h.attnFollows
  · exact State.attnFollows_setPort h.attnFollows rfl

theorem State.entry_judged (s : State) (p : Port) (k : EntryNo) : (s.judged p).entry k = s.entry k := by
  unfold State.judged
  split <;> rfl

theorem EntriesSound.accounted_judged (h : EntriesSound s) (p : Port) : Accounted (s.judged p) := by
  refine h.accounted.congr ?_ ?_ <;>
  · unfold State.judged
    split <;> rfl

section Matched

variable {k : EntryNo} {e : Entry} {t : PieceTag} {i : Nat} {m : CompleteMsg}

/-- The record of the port once the tag is free, with PROTOCOL for a wrong data count (R74, R75). -/
def PortRecord.answered (x : PortRecord) (e : Entry) (t : PieceTag) (m : CompleteMsg) : PortRecord :=
  let y : PortRecord := { x with tagsInUse := x.tagsInUse.set t.val false }
  if m.result = 0 ∧ ¬ EndsOk e m then y.raising 0x400 else y

theorem wrongCount_iff (e : Entry) (m : CompleteMsg) :
    (m.result = 0 ∧ m.data.length ≠ e.wantedCount) ↔ (m.result = 0 ∧ ¬ EndsOk e m) :=
  and_congr_right fun h0 => not_congr ⟨fun hlength => ⟨h0, hlength⟩, fun hok => hok.2⟩

theorem State.matchedComplete_eq (hattn : AttnFollows s) (ht : t.val = m.tag.toNat)
    (hfind : (e.pieces.findIdx fun o => o.holds t.val) = i) :
    s.matchedComplete p k e m =
      if (afterPiece e i m).finished then
        (s.portBecomes p ((s.port p).answered e t m)).finishEntry k (afterPiece e i m)
      else (s.portBecomes p ((s.port p).answered e t m)).setEntry k (some (afterPiece e i m)) := by
  have htags : (if h : m.tag.toNat < 8 then (s.port p).tagsInUse.set m.tag.toNat false h else (s.port p).tagsInUse) =
      (s.port p).tagsInUse.set t.val false t.isLt := by
    rw [dif_pos (ht ▸ t.isLt)]
    simp only [ht]
  have hrecord : (if m.result = 0 ∧ m.data.length ≠ e.wantedCount then
        (s.setPort p { s.port p with tagsInUse := (s.port p).tagsInUse.set t.val false t.isLt }).protocolError p
      else s.setPort p { s.port p with tagsInUse := (s.port p).tagsInUse.set t.val false t.isLt }) =
      s.portBecomes p ((s.port p).answered e t m) := by
    rw [PortRecord.answered]
    by_cases hwrong : m.result = 0 ∧ ¬ EndsOk e m
    · rw [if_pos ((wrongCount_iff e m).mpr hwrong), if_pos hwrong, State.protocolError_eq, State.protocolRaised,
        State.portBecomes_setPort, State.port_setPort_self]
    · rw [if_neg fun h => hwrong ((wrongCount_iff e m).mp h), if_neg hwrong]
      exact State.setPort_eq_portBecomes hattn rfl
  rw [ht] at hfind
  simp only [State.matchedComplete, State.modifyPort_eq_setPort, htags, hfind, Entry.completePiece_eq, hrecord]

theorem entryShape_afterPiece (hshape : EntryShape e) (hi : e.pieces[i]? = some (.outstanding t)) : EntryShape (afterPiece e i m) :=
  Entry.completePiece_eq e i m ▸ entryShape_pieceEnded hshape hi (pieceEnded_completePiece e i m)

/-- The laws of the account after an entry's piece has ended. -/
theorem Accounted.rewritten {d : Entry} (h : Accounted s) (he : s.entry k = some e) (hslot : d.slot = e.slot) (hport : d.port = e.port)
    (hstatus : StatusSoFarLaw d) : Accounted (s.setEntry k (some d)) := by
  have hbound : Bound s := ⟨h.inFlight, h.binding⟩
  have hbound' : Bound (s.setEntry k (some d)) := hbound.congr (fun j => ?_) (fun _ => rfl) fun _ _ => rfl
  · refine ⟨hbound'.1, hbound'.2, fun j c hc => ?_⟩
    rw [State.entry_setEntry] at hc
    split at hc
    · exact Option.some.inj hc ▸ hstatus
    · exact h.status j c hc
  · unfold State.boundAt
    rw [State.entry_setEntry]
    split
    next hj => simp [← hj, he, hslot, hport]
    next => rfl

end Matched

/-- Settles O47: the tag's piece is found, ends, and its entry finishes with it where it was the last. -/
theorem completeEndsPiece : Obligations.CompleteEndsPiece := by
  intro s p seq m harr a x
  have hexec := exec_complete_arrives harr m
  refine ⟨fun hlong => hexec.trans ?_, fun hshort hnone => hexec.trans ?_, ?_⟩
  · rw [State.takeComplete, if_pos hlong, State.protocolError_eq]
  · have htag : (s.judged p).entryOfTag p m.tag.toNat = none :=
      State.entryOfTag_none fun k e t he => hnone k e t ((State.entry_judged s p k).symm.trans he)
    simp only [State.takeComplete, if_neg (Nat.not_lt.mpr hshort), htag]
    rfl
  rintro k e t i hshort hsound hlaw he rfl ht hi y d b
  have hattn := hsound.attnFollows_judged e.port
  have hs := hsound.accounted_judged e.port
  have he' : a.entry k = some e := (State.entry_judged s e.port k).trans he
  have hmem := List.mem_of_getElem? hi
  have hfind : a.entryOfTag e.port m.tag.toNat = some k := by
    have hsame : a.entryOfTag e.port t.val = s.entryOfTag e.port t.val := by
      simp only [a, State.entryOfTag, State.entry_judged]
    rw [← ht, hsame, State.entryOfTag_eq hlaw he hmem]
  obtain ⟨-, hcount⟩ := hlaw.1 k e he t hmem
  obtain ⟨-, -, -, hshapes, -⟩ := id hsound
  have hshape : EntryShape d := entryShape_afterPiece (hshapes k e he) hi
  obtain ⟨-, -, -, -, hstatus⟩ := id hshape
  have htake : a.takeComplete e.port m = a.matchedComplete e.port k e m := by
    simp only [State.takeComplete, if_neg (Nat.not_lt.mpr hshort), hfind, he']
  have hmatched := State.matchedComplete_eq (k := k) (p := e.port) hattn ht (findIdx_holds hcount hi)
  have hb : b = (a.portBecomes e.port (x.answered e t m)).setEntry k (some d) := rfl
  refine ⟨fun hclosed => hexec.trans ?_, fun hopen => hexec.trans ?_⟩
  · have hs' : Accounted b := Accounted.congr (hs.rewritten (d := d) he' rfl rfl hstatus) rfl rfl
    have hend := State.finishEntry_eq_afterEnd (s := b) (k := k) (d := d) rfl hs' (State.entry_setEntry_self ..) hclosed
    rw [htake, hmatched, if_pos ((Entry.finished_iff hshape).mpr hclosed), ← State.setEntry_finishEntry _ k d d, ← hb, hend]
    rfl
  · rw [htake, hmatched, if_neg fun h => hopen ((Entry.finished_iff hshape).mp h), hb]

end Sys2Proof.Machine
end

section
/-! PROOFS. What a host link reset leaves of the link, the completion list, the flags and the entries, in every state (R46, R64, R65). -/

namespace Sys2Proof.Machine

open Sys2Proof

variable {s t : State}

/-! ### What the freeing of an entry leaves alone -/

/-- The link and the completion list stand, and no flag falls. -/
structure Quiet (s t : State) : Prop where
  hostLink : t.hostLink = s.hostLink
  completions : t.completions = s.completions
  global : ∀ f, s.globalFlag f = true → t.globalFlag f = true
  port : ∀ p f, s.portFlag p f = true → t.portFlag p f = true

namespace Quiet

theorem refl (s : State) : Quiet s s :=
  ⟨rfl, rfl, fun _ => id, fun _ _ => id⟩

theorem trans {u : State} (h : Quiet s t) (h' : Quiet t u) : Quiet s u :=
  ⟨h'.hostLink.trans h.hostLink, h'.completions.trans h.completions, fun f hf => h'.global f (h.global f hf),
    fun p f hf => h'.port p f (h.port p f hf)⟩

theorem flag_or {n : Nat} {g k : BitVec n} (m : BitVec n) (h : (g &&& k != 0) = true) : ((g ||| m) &&& k != 0) = true := by
  rw [bne_iff_ne] at h ⊢
  rw [BitVec.and_or_distrib_right]
  exact fun hzero => h (BitVec.or_eq_zero_iff.mp hzero).1

theorem setClaim (s : State) (n : SlotNo) (c : Option Claim) : Quiet s (s.setClaim n c) :=
  ⟨rfl, rfl, fun _ => id, fun _ _ => id⟩

theorem setEntry (s : State) (k : EntryNo) (e : Option Entry) : Quiet s (s.setEntry k e) :=
  ⟨rfl, rfl, fun _ => id, fun _ _ => id⟩

theorem driveAttn (s : State) : Quiet s s.driveAttn :=
  ⟨rfl, rfl, fun _ => id, fun _ _ => id⟩

theorem setPort (s : State) (p : Port) {x : PortRecord} (hx : ∃ marks, x.flags = (s.port p).flags ||| marks) : Quiet s (s.setPort p x) := by
  obtain ⟨marks, hx⟩ := hx
  refine ⟨rfl, rfl, fun _ => id, fun q f hf => ?_⟩
  unfold State.portFlag at hf ⊢
  rw [State.port_setPort]
  split
  next hq =>
    subst hq
    rw [hx]
    exact flag_or marks hf
  next => exact hf

theorem setPort_same (s : State) (p : Port) {x : PortRecord} (hx : x.flags = (s.port p).flags) : Quiet s (s.setPort p x) :=
  setPort s p ⟨0, hx.trans BitVec.or_zero.symm⟩

theorem raiseGlobal (s : State) (f : GlobalFlag) : Quiet s (s.raiseGlobal f) :=
  ⟨rfl, rfl, fun _ hg => flag_or f.mark hg, fun _ _ => id⟩

theorem raisePort (s : State) (p : Port) (f : PortFlag) : Quiet s (s.raisePort p f) :=
  (setPort s p ⟨f.mark, rfl⟩).trans (driveAttn _)

theorem countOut (s : State) (p : Port) : Quiet s (s.countOut p) := by
  rw [State.countOut_eq]
  exact (setPort s p ⟨0x40, rfl⟩).trans (driveAttn _)

theorem reportEnd (s : State) (c : HostCommand) (n : Nat) (r : CommandResult) (w : Nat) : Quiet s (s.reportEnd c n r w) := by
  unfold State.reportEnd
  split
  · exact ⟨rfl, rfl, fun _ hg => flag_or GlobalFlag.cmdDone.mark hg, fun _ _ => id⟩
  · exact refl s

theorem owe (s : State) (p : Port) (m : OwedMessage) : Quiet s (s.owe p m) := by
  rw [State.owe_eq]
  refine setPort_same s p ?_
  unfold PortRecord.taking
  split
  · exact PortRecord.flags_afterWakeCause _
  · rfl

theorem commitReshape (s : State) (n : SlotNo) (c : Claim) (b z : Nat) : Quiet s (s.commitReshape n c b z) := by
  unfold State.commitReshape
  split
  · exact ((setClaim ..).trans (owe ..)).trans (raisePort ..)
  all_goals exact setClaim ..

theorem completeDrain (s : State) (n : SlotNo) (c : Claim) (cause : RetireCause) : Quiet s (s.completeDrain n c cause) := by
  have hfree := setClaim s n none
  unfold State.completeDrain
  split
  · cases cause with
    | release => exact (hfree.trans (owe ..)).trans (countOut ..)
    | revoke => exact ((hfree.trans (owe ..)).trans (reportEnd ..)).trans (countOut ..)
    | hostRetire => exact (hfree.trans (reportEnd ..)).trans (countOut ..)
  all_goals
    cases cause with
    | release => exact hfree
    | revoke | hostRetire => exact hfree.trans (reportEnd ..)

theorem settle (s : State) (n : SlotNo) : Quiet s (s.settle n) := by
  unfold State.settle
  split
  · exact refl s
  · split
    · split
      · exact commitReshape ..
      · exact completeDrain ..
      all_goals exact refl s
    · exact refl s

theorem freeEntry (s : State) (k : EntryNo) (e : Entry) : Quiet s (s.freeEntry k e) := by
  unfold State.freeEntry State.decrement
  rw [State.modifyPort_eq_setPort]
  have hleft := (setPort_same s e.port (x := { s.port e.port with issueList := (s.port e.port).issueList.filter (· != k) }) rfl).trans
    (setEntry _ k none)
  split
  · exact hleft
  · exact (hleft.trans (setClaim ..)).trans (settle ..)

theorem hostResetEntry (s : State) (k : EntryNo) (e : Entry) : Quiet s (s.hostResetEntry k e) := by
  unfold State.hostResetEntry
  split
  · exact refl s
  · split
    · exact freeEntry ..
    · exact setEntry ..

end Quiet

/-! ### The walk over the table (R64) -/

/-- One step of the walk. -/
def State.hostResetAt (s : State) (k : EntryNo) : State :=
  (s.entry k).elim s fun e => s.hostResetEntry k e

theorem State.hostResetEntries_eq_foldl (s : State) : s.hostResetEntries = allEntries.foldl State.hostResetAt s := by
  rw [State.hostResetEntries]
  congr 1
  funext u k
  unfold State.hostResetAt
  cases u.entry k <;> rfl

theorem Quiet.hostResetEntries (s : State) : Quiet s s.hostResetEntries := by
  have walk (l : List EntryNo) (u : State) : Quiet u (l.foldl State.hostResetAt u) := by
    induction l generalizing u with
    | nil => exact Quiet.refl u
    | cons k l ih =>
      refine Quiet.trans ?_ (ih _)
      unfold State.hostResetAt
      cases u.entry k with
      | none => exact Quiet.refl u
      | some e => exact Quiet.hostResetEntry u k e
  rw [State.hostResetEntries_eq_foldl]
  exact walk allEntries s

theorem State.entry_hostResetAt (s : State) (j k : EntryNo) :
    (s.hostResetAt j).entry k = if j = k then entryAfterHostReset (s.entry k) else s.entry k := by
  unfold State.hostResetAt
  by_cases hjk : j = k
  · subst hjk
    rw [if_pos rfl]
    cases he : s.entry j with
    | none => exact he
    | some e =>
      unfold entryAfterHostReset
      rw [Option.elim_some, State.hostResetEntry]
      cases howes : e.owes with
      | none => simpa only [howes] using he
      | some tag =>
        simp only [howes]
        split
        · rw [State.entry_freeEntry, if_pos rfl]
        · rw [State.entry_setEntry, if_pos rfl]
  · rw [if_neg hjk]
    cases s.entry j with
    | none => rfl
    | some e =>
      rw [Option.elim_some, State.hostResetEntry]
      split
      · rfl
      · split
        · rw [State.entry_freeEntry, if_neg hjk]
        · rw [State.entry_setEntry, if_neg hjk]

theorem State.entry_foldl_hostResetAt {l : List EntryNo} (hl : l.Nodup) (s : State) (k : EntryNo) :
    (l.foldl State.hostResetAt s).entry k = if k ∈ l then entryAfterHostReset (s.entry k) else s.entry k := by
  induction l generalizing s with
  | nil => rfl
  | cons j l ih =>
    obtain ⟨hj, hnodup⟩ := List.nodup_cons.mp hl
    rw [List.foldl_cons, ih hnodup, State.entry_hostResetAt]
    by_cases hjk : j = k
    · subst hjk
      simp [hj]
    · simp [hjk, Ne.symm hjk]

theorem State.entry_hostResetEntries (s : State) (k : EntryNo) : s.hostResetEntries.entry k = entryAfterHostReset (s.entry k) := by
  rw [State.hostResetEntries_eq_foldl, State.entry_foldl_hostResetAt nodup_allEntries, if_pos (mem_allEntries k)]

theorem owes_entryAfterHostReset {o : Option Entry} {e : Entry} (h : entryAfterHostReset o = some e) : e.owes = none := by
  unfold entryAfterHostReset at h
  cases o with
  | none => exact absurd h.symm (Option.some_ne_none e)
  | some d =>
    dsimp only at h
    split at h
    next hnone => exact Option.some.inj h ▸ hnone
    next =>
      split at h
      · exact absurd h.symm (Option.some_ne_none e)
      · exact Option.some.inj h ▸ rfl

/-! ### HOST_LINK_RESET (R46) -/

theorem execHostLinkReset_idle (h : s.hostLink = .reset) : execHostLinkReset s = .next s := by
  simp only [execHostLinkReset, h]

/-- The state in which the link has dropped. -/
def State.dropped (s : State) : State :=
  { s with hostLink := .reset, waiting := [] }

theorem execHostLinkReset_up (h : s.hostLink = .up) :
    execHostLinkReset s = .next (s.dropped.hostResetEntries.raiseGlobal .hostLinkReset) := by
  simp only [execHostLinkReset, h, State.dropped]

theorem globalFlag_raiseGlobal (s : State) (f : GlobalFlag) : (s.raiseGlobal f).globalFlag f = true := by
  have hmark : f.mark ≠ 0 := by cases f <;> decide
  have habsorb : (s.globalFlags ||| f.mark) &&& f.mark = f.mark := by
    refine BitVec.eq_of_getLsbD_eq fun i hi => ?_
    rw [BitVec.getLsbD_and, BitVec.getLsbD_or]
    cases f.mark.getLsbD i <;> simp
  refine bne_iff_ne.mpr ?_
  exact habsorb.trans_ne hmark

end Sys2Proof.Machine
end

section
/-! PROOFS. A host link reset ends in `State.afterHostReset`. The walk over the table frees entries of several ports, each of which may
settle its claim: what it writes is shown to be, port by port, what the end of that port's entries writes (R5, R64). -/

namespace Sys2Proof.Machine

open Sys2Proof

variable {s t : State}

/-! ### What the walk writes -/

/-- The parts of the state that the walk writes: the two tables, every port's record, and the slot whose completed drain ends the
running command. -/
@[ext] structure Endings where
  entries : Vector (Option Entry) 32
  claims : Vector (Option Claim) 64
  records : Vector PortRecord 8
  report : Option SlotNo

def State.writeAll (s : State) (w : Endings) : State :=
  State.reporting (State.driveAttn { s with entries := w.entries, claims := w.claims, ports := w.records }) w.report

/-- The parts that the end of entries of one port writes. -/
def Endings.of (w : Endings) (completions : List Completion) (p : Port) : Ending :=
  ⟨w.entries, completions, w.claims, w.records[p], w.report⟩

/-- The state with every port's record replaced. -/
def State.withPorts (s : State) (records : Vector PortRecord 8) : State :=
  { s with ports := records }

theorem State.writeAll_eq_write (s : State) (w : Endings) (p : Port) :
    s.writeAll w = (s.withPorts w.records).write p (w.of s.completions p) := by
  have hself := State.setPort_port { s with entries := w.entries, claims := w.claims, ports := w.records } p
  exact (congrArg (fun u : State => u.driveAttn.reporting w.report) hself).symm

theorem State.write_eq_writeAll (s : State) (records : Vector PortRecord 8) (p : Port) {v : Ending} (h : v.completions = s.completions) :
    (s.withPorts records).write p v = s.writeAll ⟨v.entries, v.claims, records.set p.val v.record, v.report⟩ := by
  obtain ⟨E, K, C, x, report⟩ := v
  obtain rfl : K = s.completions := h
  rfl

theorem State.entry_writeAll (s : State) (w : Endings) (k : EntryNo) : (s.writeAll w).entry k = w.entries[k] := by
  rw [State.writeAll_eq_write s w 0, State.entry_write]
  rfl

theorem State.setEntry_writeAll (s : State) (w : Endings) (k : EntryNo) (e : Option Entry) :
    (s.writeAll w).setEntry k e = s.writeAll { w with entries := w.entries.set k.val e } := by
  obtain ⟨_, _, _, report⟩ := w
  cases report <;> rfl

/-! ### The parts of a decrement, each from its own part -/

section Decrement

variable {v w : Ending} {u : State} {n : SlotNo} {c : Claim}

theorem Ending.entries_decrement (w : Ending) (s : State) (n : SlotNo) (c : Claim) : (w.decrement s n c).entries = w.entries := by
  unfold Ending.decrement
  split <;> rfl

theorem Ending.completions_decrement (w : Ending) (s : State) (n : SlotNo) (c : Claim) :
    (w.decrement s n c).completions = w.completions := by
  unfold Ending.decrement
  split <;> rfl

theorem Ending.claims_decrement (h : v.claims = w.claims) : (v.decrement s n c).claims = (w.decrement u n c).claims := by
  unfold Ending.decrement
  split <;> simp only [Ending.settle, h]

theorem Ending.record_decrement (h : v.record = w.record) : (v.decrement s n c).record = (w.decrement u n c).record := by
  unfold Ending.decrement
  split <;> simp only [Ending.settle, h]

theorem Ending.claims_finish {k : EntryNo} {e : Entry} {st : Status} (h : v.claims = w.claims) :
    (v.decrement u e.slot c).claims = (w.finish s k e st c).claims :=
  Ending.claims_decrement h

theorem Ending.record_finish {k : EntryNo} {e : Entry} {st : Status}
    (h : v.record = w.record.freeing (fun j => j == k) (fun t => e.pieces.contains (.outstanding t)) 0
      (if e.losesPosted st then 0x100 else 0)) :
    (v.decrement u e.slot c).record = (w.finish s k e st c).record :=
  Ending.record_decrement h

theorem Ending.report_decrement (h : v.report = w.report) : (v.decrement s n c).report = (w.decrement s n c).report := by
  unfold Ending.decrement
  split <;> simp only [Ending.settle, h]

theorem Ending.report_finish {k : EntryNo} {e : Entry} {st : Status} (h : v.report = w.report) :
    (v.decrement s e.slot c).report = (w.finish s k e st c).report :=
  Ending.report_decrement h

end Decrement

theorem State.freeEntry_writeAll (s : State) {w : Endings} {k : EntryNo} {e : Entry} {c : Claim} (hc : w.claims[e.slot] = some c)
    (hport : c.port = some e.port) {v : Ending}
    (hv : v = Ending.decrement
      { w.of s.completions e.port with
        entries := w.entries.set k.val none
        record := w.records[e.port].freeing (fun j => j == k) (fun _ => false) 0 0 } s e.slot c) :
    (s.writeAll w).freeEntry k e = s.writeAll ⟨v.entries, v.claims, w.records.set e.port.val v.record, v.report⟩ := by
  subst hv
  rw [State.writeAll_eq_write s w e.port, State.freeEntry_write _ rfl (by exact hc) hport]
  exact State.write_eq_writeAll s w.records e.port (Ending.completions_decrement ..)

/-! ### What an event writes depends on the entries it reaches alone -/

theorem State.endedAt_congr {R R' : EntryNo → Entry → Bool} (h : s.reached R' = s.reached R) : s.endedAt R' = s.endedAt R := by
  funext n
  simp only [State.endedAt, h]

theorem State.settling_congr {R R' : EntryNo → Entry → Bool} (h : s.reached R' = s.reached R) : s.settling R' = s.settling R := by
  funext n
  simp only [State.settling, State.endedAt_congr h]

theorem State.claimAfter_congr {R R' : EntryNo → Entry → Bool} (h : s.reached R' = s.reached R) : s.claimAfter R' = s.claimAfter R := by
  funext n
  simp only [State.claimAfter, State.settling_congr h, State.endedAt_congr h]

theorem State.drainReport_congr {R R' : EntryNo → Entry → Bool} (h : s.reached R' = s.reached R) :
    s.drainReport R' = s.drainReport R := by
  rw [State.drainReport, State.settling_congr h]
  rfl

theorem State.portAfterEnd_congr {R R' : EntryNo → Entry → Bool} (h : s.reached R' = s.reached R) (p : Port) (st : Status) :
    s.portAfterEnd p R' st = s.portAfterEnd p R st := by
  have hmessages : s.settlingMessages R' = s.settlingMessages R := by
    rw [State.settlingMessages, State.settlingMessages, h, State.settling_congr h]
  simp only [State.portAfterEnd_eq, State.boardsFreed, State.marksRaised, h, State.settling_congr h, hmessages]

/-! ### The walk over a list of places -/

/-- The entries freed in the places of a list, and those of them on one port. -/
def resetWithin (l : List EntryNo) : EntryNo → Entry → Bool :=
  fun k e => decide (k ∈ l) && freedAtHostReset k e

def resetWithinOf (l : List EntryNo) (p : Port) : EntryNo → Entry → Bool :=
  fun k e => resetWithin l k e && e.port == p

theorem State.reached_resetWithin (s : State) (l : List EntryNo) (k : EntryNo) :
    s.reached (resetWithin l) k = if k ∈ l then s.reached freedAtHostReset k else none := by
  unfold State.reached resetWithin
  cases s.entry k with
  | none => simp
  | some e => by_cases hk : k ∈ l <;> simp [hk, Option.filter_some]

theorem State.reached_ofPort (s : State) (R : EntryNo → Entry → Bool) (p : Port) (k : EntryNo) :
    s.reached (fun k e => R k e && e.port == p) k = (s.reached R k).filter fun e => e.port == p := by
  unfold State.reached
  cases s.entry k with
  | none => rfl
  | some e =>
    rw [Option.filter_some, Option.filter_some]
    cases hR : R k e <;> cases hp : e.port == p <;> simp [hR, hp, Option.filter_some]

theorem State.reached_resetWithinOf (s : State) (l : List EntryNo) (p : Port) (k : EntryNo) :
    s.reached (resetWithinOf l p) k = (s.reached (resetWithin l) k).filter fun e => e.port == p :=
  s.reached_ofPort (resetWithin l) p k

/-- What the walk has written after the places of a list. -/
def State.resetEndings (s : State) (l : List EntryNo) : Endings where
  entries := Vector.ofFn fun k => if k ∈ l then entryAfterHostReset (s.entry k) else s.entry k
  claims := Vector.ofFn (s.claimAfter (resetWithin l))
  records := Vector.ofFn fun p => s.portAfterEnd p (resetWithinOf l p) .ok
  report := s.drainReport (resetWithin l)

/-- The slot whose entries an event of one port ends is a slot of that port. -/
theorem Accounted.endedAt_ofPort (hs : Accounted s) {n : SlotNo} {c : Claim} (hc : s.claim n = some c) {p : Port} (hport : c.port = some p)
    (R : EntryNo → Entry → Bool) : s.endedAt (fun k e => R k e && e.port == p) n = s.endedAt R n := by
  refine List.countP_congr fun k _ => ?_
  rw [State.reached_ofPort]
  cases he : s.reached R k with
  | none => simp
  | some e =>
    by_cases hslot : e.slot = n
    · subst hslot
      obtain ⟨d, hd, hown⟩ := hs.claim_of_entry (State.entry_of_reached he)
      obtain rfl := Option.some.inj (hc.symm.trans hd)
      have hp : e.port = p := Option.some.inj (hown.symm.trans hport)
      simp [hp, Option.filter_some]
    · cases hp : e.port == p <;> simp [hp, hslot, Option.filter_some]

section Step

variable {l : List EntryNo} {n : EntryNo}

theorem State.entries_resetEndings (s : State) (l : List EntryNo) (n : EntryNo) :
    (s.resetEndings l).entries.set n.val (entryAfterHostReset (s.entry n)) = (s.resetEndings (l ++ [n])).entries := by
  ext1 i hi
  simp only [State.resetEndings, Vector.getElem_set, Vector.getElem_ofFn, List.mem_append, List.mem_singleton]
  by_cases hin : n.val = i
  · subst hin
    simp
  · have hne : (⟨i, hi⟩ : EntryNo) ≠ n := fun hcon => hin (congrArg Fin.val hcon).symm
    simp [hin, hne]

/-- A place whose entry is not freed changes the entries alone. -/
theorem State.resetEndings_stays (hnot : s.reached freedAtHostReset n = none) :
    s.resetEndings (l ++ [n]) =
      { s.resetEndings l with entries := (s.resetEndings l).entries.set n.val (entryAfterHostReset (s.entry n)) } := by
  have hreached : s.reached (resetWithin (l ++ [n])) = s.reached (resetWithin l) := by
    funext k
    rw [State.reached_resetWithin, State.reached_resetWithin]
    by_cases hk : k = n
    · subst hk
      simp [hnot]
    · simp [hk]
  have hreachedOf (p : Port) : s.reached (resetWithinOf (l ++ [n]) p) = s.reached (resetWithinOf l p) := by
    funext k
    rw [State.reached_resetWithinOf, State.reached_resetWithinOf, hreached]
  refine Endings.ext (State.entries_resetEndings s l n).symm ?_ ?_ (State.drainReport_congr hreached)
  · simp only [State.resetEndings, State.claimAfter_congr hreached]
  · simp only [State.resetEndings, State.portAfterEnd_congr (hreachedOf _)]

variable {e : Entry} (hfreed : s.reached freedAtHostReset n = some e) (hlow : ∀ k ∈ l, k < n)
include hfreed hlow

theorem joins_resetWithin : Joins s e.port (resetWithin l) (resetWithin (l ++ [n])) n e := by
  refine ⟨fun k => ?_, fun k d hd => ?_, State.entry_of_reached hfreed, rfl⟩
  · rw [State.reached_resetWithin, State.reached_resetWithin]
    by_cases hk : k = n
    · simp [hk, hfreed]
    · simp [hk]
  · rw [State.reached_resetWithin] at hd
    by_contra hk
    rw [if_neg fun hmem => hk (hlow k hmem)] at hd
    exact Option.some_ne_none d hd.symm

theorem joins_resetWithinOf : Joins s e.port (resetWithinOf l e.port) (resetWithinOf (l ++ [n]) e.port) n e := by
  have hjoins := joins_resetWithin hfreed hlow
  refine ⟨fun k => ?_, fun k d hd => ?_, hjoins.entry, rfl⟩
  · rw [State.reached_resetWithinOf, State.reached_resetWithinOf, hjoins.reached]
    by_cases hk : k = n
    · simp [hk, Option.filter_some]
    · simp [hk]
  · rw [State.reached_resetWithinOf] at hd
    exact hjoins.before k d (Option.filter_eq_some_iff.mp hd).1

/-- The records of the other ports stand. -/
theorem reached_resetWithinOf_ne {q : Port} (hq : e.port ≠ q) : s.reached (resetWithinOf (l ++ [n]) q) = s.reached (resetWithinOf l q) := by
  have hjoins := joins_resetWithin hfreed hlow
  funext k
  rw [State.reached_resetWithinOf, State.reached_resetWithinOf, hjoins.reached]
  by_cases hk : k = n
  · rw [if_pos hk, hk, hjoins.not_reached le_rfl]
    simp [hq, Option.filter_some]
  · rw [if_neg hk]

omit hfreed hlow in
theorem resetWithinOf_endedAt (hs : Accounted s) {c : Claim} {m : SlotNo} (hc : s.claim m = some c) {p : Port} (hport : c.port = some p) :
    s.endedAt (resetWithinOf l p) m = s.endedAt (resetWithin l) m :=
  hs.endedAt_ofPort hc hport (resetWithin l)

/-- A freed entry: what the walk has written, one entry further on. -/
theorem State.resetEndings_frees (hs : Accounted s) (hshape : EntryShape e) :
    (s.writeAll (s.resetEndings l)).freeEntry n e = s.writeAll (s.resetEndings (l ++ [n])) := by
  obtain ⟨c, hc, hport⟩ := hs.claim_of_entry (State.entry_of_reached hfreed)
  have hjoins := joins_resetWithin hfreed hlow
  have hjoinsOf := joins_resetWithinOf hfreed hlow
  have hclaim : (s.resetEndings l).claims[e.slot] = some { c with inFlight := c.inFlight - s.endedAt (resetWithin l) e.slot } := by
    simpa [State.resetEndings] using hjoins.claimAfter_self hs hc
  have hfull := hjoins.finish_join hs hc .ok
  have hof := hjoinsOf.finish_join hs hc .ok
  rw [resetWithinOf_endedAt hs hc hport] at hof
  obtain ⟨howes, hissued⟩ : e.owes.isSome = true ∧ e.issued = 0 := by
    simpa [freedAtHostReset] using (Option.filter_eq_some_iff.mp hfreed).2
  have hgone : entryAfterHostReset (s.entry n) = none := by
    obtain ⟨tag, htag⟩ := Option.isSome_iff_exists.mp howes
    simp [State.entry_of_reached hfreed, entryAfterHostReset, htag, hissued]
  have hrecord : (s.resetEndings l).records[e.port] = s.portAfterEnd e.port (resetWithinOf l e.port) .ok := by
    simp [State.resetEndings]
  obtain ⟨w, hw⟩ : ∃ w : Ending, w =
      { (s.resetEndings l).of s.completions e.port with
        entries := (s.resetEndings l).entries.set n.val none
        record := (s.resetEndings l).records[e.port].freeing (fun j => j == n) (fun _ => false) 0 0 } := ⟨_, rfl⟩
  rw [State.freeEntry_writeAll s hclaim hport (congrArg (fun w : Ending => w.decrement s e.slot _) hw)]
  refine congrArg s.writeAll (Endings.ext ?_ ?_ ?_ ?_)
  · rw [← State.entries_resetEndings, hgone, Ending.entries_decrement, hw]
  · have hclaims : w.claims = (s.endingOf e.port (resetWithin l) .ok).claims := by rw [hw]; rfl
    dsimp only
    rw [Ending.claims_finish hclaims, hfull]
    rfl
  · have hnothing : (fun t => e.pieces.contains (.outstanding t)) = fun _ : PieceTag => false := by
      funext t
      simpa using hshape.not_outstanding hissued t
    have hkept : e.losesPosted .ok = false := by
      obtain ⟨tag, htag⟩ := Option.isSome_iff_exists.mp howes
      simp [Entry.losesPosted, htag]
    have hrec : w.record = (s.endingOf e.port (resetWithinOf l e.port) .ok).record.freeing (fun j => j == n)
        (fun t => e.pieces.contains (.outstanding t)) 0 (if e.losesPosted .ok then 0x100 else 0) := by
      rw [hw, hnothing, hkept, hrecord]
      rfl
    dsimp only
    rw [Ending.record_finish hrec, hof]
    refine Vector.ext fun i hi => ?_
    rw [Vector.getElem_set]
    simp only [State.resetEndings, Vector.getElem_ofFn]
    split
    next hin =>
      subst hin
      rfl
    next hin =>
      have hne : e.port ≠ ⟨i, hi⟩ := fun hcon => hin (congrArg Fin.val hcon)
      rw [State.portAfterEnd_congr (reached_resetWithinOf_ne hfreed hlow hne)]
  · have hreport : w.report = (s.endingOf e.port (resetWithin l) .ok).report := by rw [hw]; rfl
    dsimp only
    rw [Ending.report_finish hreport, hfull]
    rfl

end Step

/-- Nothing is written before the first place. -/
theorem State.writeAll_nil (hattn : AttnFollows s) : s.writeAll (s.resetEndings []) = s := by
  have hnone (k : EntryNo) : s.reached (resetWithin []) k = none := by simp [State.reached_resetWithin]
  have hnoneOf (p : Port) (k : EntryNo) : s.reached (resetWithinOf [] p) k = none := by
    simp [State.reached_resetWithinOf, hnone]
  have hclaims : (s.resetEndings []).claims = s.claims := by
    refine State.claims_ext (s := { s with claims := (s.resetEndings []).claims }) (t := s) fun m => ?_
    have hclaim := State.claim_afterEnd s 0 (resetWithin []) .ok m
    rw [State.afterEnd_of_none hattn hnone] at hclaim
    simp [State.resetEndings, State.claim, ← hclaim]
  have hrecords : (s.resetEndings []).records = s.ports := by
    refine Vector.ext fun i hi => ?_
    have hport := State.port_write_self s ⟨i, hi⟩ (s.endingOf ⟨i, hi⟩ (resetWithinOf [] ⟨i, hi⟩) .ok)
    rw [← State.afterEnd_eq_write, State.afterEnd_of_none hattn (hnoneOf _)] at hport
    simp only [State.resetEndings, Vector.getElem_ofFn]
    exact hport.symm
  have hentries : (s.resetEndings []).entries = s.entries := by
    refine Vector.ext fun i hi => ?_
    simp [State.resetEndings, State.entry]
  have hreport : (s.resetEndings []).report = none := by
    have hreached : s.reached (resetWithin []) = fun _ => none := funext hnone
    simp [State.resetEndings, State.drainReport, State.settling, State.endedAt, hreached]
  rw [State.writeAll, hclaims, hrecords, hentries, hreport]
  have hself : s.driveAttn = s := by rw [State.driveAttn, ← hattn]
  exact hself

theorem foldl_hostResetAt (hattn : AttnFollows s) (hs : Accounted s) (hshape : ∀ k e, s.entry k = some e → EntryShape e)
    {l : List EntryNo} (hl : l.Pairwise (· < ·)) : l.foldl State.hostResetAt s = s.writeAll (s.resetEndings l) := by
  induction l using List.reverseRecOn with
  | nil => exact (State.writeAll_nil hattn).symm
  | append_singleton l n ih =>
    obtain ⟨hlist, -, hbefore⟩ := List.pairwise_append.mp hl
    have hlow (k : EntryNo) (hk : k ∈ l) : k < n := hbefore k hk n (List.mem_singleton.mpr rfl)
    have hnot : n ∉ l := fun hn => lt_irrefl n (hlow n hn)
    have hplace : (s.resetEndings l).entries[n] = s.entry n := by simp [State.resetEndings, hnot]
    rw [List.foldl_concat, ih hlist, State.hostResetAt, State.entry_writeAll, hplace]
    have hkept (hstays : s.reached freedAtHostReset n = none) (hsame : entryAfterHostReset (s.entry n) = s.entry n) :
        s.writeAll (s.resetEndings l) = s.writeAll (s.resetEndings (l ++ [n])) := by
      rw [State.resetEndings_stays hstays, hsame, ← hplace]
      simp
    cases he : s.entry n with
    | none => exact hkept (by simp [State.reached, he]) (by rw [he]; rfl)
    | some e =>
      rw [Option.elim_some, State.hostResetEntry]
      cases howes : e.owes with
      | none => exact hkept (by simp [State.reached, he, freedAtHostReset, howes, Option.filter_some]) (by simp [he, entryAfterHostReset, howes])
      | some tag =>
        dsimp only
        split
        next hissued =>
          have hfreed : s.reached freedAtHostReset n = some e := by
            simp [State.reached, he, freedAtHostReset, howes, hissued, Option.filter_some]
          exact State.resetEndings_frees hfreed hlow hs (hshape n e he)
        next hissued =>
          have hstays : s.reached freedAtHostReset n = none := by
            simp [State.reached, he, freedAtHostReset, hissued, Option.filter_some]
          have hmarked : entryAfterHostReset (s.entry n) = some { e with owes := none } := by
            simp [he, entryAfterHostReset, howes, hissued]
          rw [State.setEntry_writeAll, State.resetEndings_stays hstays, hmarked]

/-! ### ATTN before the walk does not bear on it -/

/-- What the operation leaves does not depend on ATTN, once ATTN is driven again. -/
def AttnBlind (f : State → State) : Prop :=
  ∀ s, (f s.driveAttn).driveAttn = (f s).driveAttn

namespace AttnBlind

theorem comp {f g : State → State} (hg : AttnBlind g) (hf : AttnBlind f) : AttnBlind fun s => g (f s) := by
  intro s
  rw [← hg (f s.driveAttn), hf, hg]

theorem setClaim (n : SlotNo) (c : Option Claim) : AttnBlind fun s => s.setClaim n c :=
  fun _ => rfl

theorem setEntry (k : EntryNo) (e : Option Entry) : AttnBlind fun s => s.setEntry k e :=
  fun _ => rfl

theorem modifyPort (p : Port) (f : PortRecord → PortRecord) : AttnBlind fun s => s.modifyPort p f :=
  fun _ => rfl

theorem owe (p : Port) (m : OwedMessage) : AttnBlind fun s => s.owe p m := by
  intro s
  simp only [State.owe_eq]
  rfl

theorem raisePort (p : Port) (f : PortFlag) : AttnBlind fun s => s.raisePort p f :=
  fun _ => rfl

theorem countOut (p : Port) : AttnBlind fun s => s.countOut p :=
  fun _ => rfl

theorem reportEnd (c : HostCommand) (n : Nat) (r : CommandResult) (w : Nat) : AttnBlind fun s => s.reportEnd c n r w := by
  intro s
  by_cases h : s.running c n = true
  · simp only [State.reportEnd_running h, State.reportEnd_running (s := s.driveAttn) h]
    rfl
  · have hidle : s.running c n = false := by simpa using h
    simp only [State.reportEnd_idle hidle, State.reportEnd_idle (s := s.driveAttn) hidle]
    rfl

theorem commitReshape (n : SlotNo) (c : Claim) (b z : Nat) : AttnBlind fun s => s.commitReshape n c b z := by
  unfold State.commitReshape
  cases c.owner with
  | board p h y a => exact (raisePort p .claimChange).comp ((owe p _).comp (setClaim n _))
  | fixed | fence | route => exact setClaim n _

theorem completeDrain (n : SlotNo) (c : Claim) (cause : RetireCause) : AttnBlind fun s => s.completeDrain n c cause := by
  unfold State.completeDrain
  cases c.owner with
  | board p h y a =>
    cases cause with
    | release => exact (countOut p).comp ((owe p _).comp (setClaim n none))
    | revoke => exact (countOut p).comp ((reportEnd _ _ _ _).comp ((owe p _).comp (setClaim n none)))
    | hostRetire => exact (countOut p).comp ((reportEnd _ _ _ _).comp (setClaim n none))
  | fixed | fence | route =>
    cases cause with
    | release => exact setClaim n none
    | revoke | hostRetire => exact (reportEnd _ _ _ _).comp (setClaim n none)

theorem settle (n : SlotNo) : AttnBlind fun s => s.settle n := by
  intro s
  have hclaim : s.driveAttn.claim n = s.claim n := rfl
  simp only [State.settle, hclaim]
  cases s.claim n with
  | none => rfl
  | some c =>
    dsimp only
    split
    · cases c.phase with
      | reshaping b z => exact commitReshape n c b z s
      | draining cause => exact completeDrain n c cause s
      | live | orphaned => rfl
    · rfl

theorem decrement (n : SlotNo) : AttnBlind fun s => s.decrement n := by
  intro s
  have hclaim : s.driveAttn.claim n = s.claim n := rfl
  simp only [State.decrement, hclaim]
  cases s.claim n with
  | none => rfl
  | some c => exact (settle n).comp (setClaim n _) s

theorem freeEntry (k : EntryNo) (e : Entry) : AttnBlind fun s => s.freeEntry k e :=
  (decrement e.slot).comp ((setEntry k none).comp (modifyPort e.port _))

theorem hostResetAt (k : EntryNo) : AttnBlind fun s => s.hostResetAt k := by
  intro s
  have hentry : s.driveAttn.entry k = s.entry k := rfl
  simp only [State.hostResetAt, hentry]
  cases s.entry k with
  | none => rfl
  | some e =>
    simp only [Option.elim_some, State.hostResetEntry]
    cases e.owes with
    | none => rfl
    | some tag =>
      dsimp only
      split
      · exact freeEntry k e s
      · rfl

theorem foldl_hostResetAt (l : List EntryNo) : AttnBlind fun s => l.foldl State.hostResetAt s := by
  induction l with
  | nil => exact fun _ => rfl
  | cons k l ih => exact ih.comp (hostResetAt k)

end AttnBlind

/-- What the walk writes, whatever ATTN was. -/
theorem State.hostResetEntries_eq (hs : Accounted s) (hshape : ∀ k e, s.entry k = some e → EntryShape e) :
    s.hostResetEntries.driveAttn = (s.driveAttn.writeAll (s.driveAttn.resetEndings allEntries)).driveAttn := by
  have hs' : Accounted s.driveAttn := hs.congr rfl rfl
  have hwalk := Machine.foldl_hostResetAt (s := s.driveAttn) rfl hs' hshape pairwise_allEntries
  have hblind : (allEntries.foldl State.hostResetAt s.driveAttn).driveAttn = (allEntries.foldl State.hostResetAt s).driveAttn :=
    AttnBlind.foldl_hostResetAt allEntries s
  rw [State.hostResetEntries_eq_foldl, ← hblind, hwalk]

/-! ### The state after a host link reset (R64, R65) -/

theorem State.resetEndings_all (s : State) :
    s.resetEndings allEntries =
      { entries := Vector.ofFn fun k => entryAfterHostReset (s.entry k)
        claims := Vector.ofFn (s.claimAfter freedAtHostReset)
        records := Vector.ofFn fun p => s.portAfterEnd p (freedAtHostResetOf p) .ok
        report := s.drainReport freedAtHostReset } := by
  have hreached : s.reached (resetWithin allEntries) = s.reached freedAtHostReset := by
    funext k
    rw [State.reached_resetWithin, if_pos (mem_allEntries k)]
  have hreachedOf (p : Port) : s.reached (resetWithinOf allEntries p) = s.reached (freedAtHostResetOf p) := by
    funext k
    rw [State.reached_resetWithinOf, hreached]
    exact (s.reached_ofPort freedAtHostReset p k).symm
  refine Endings.ext ?_ ?_ ?_ (State.drainReport_congr hreached)
  · simp only [State.resetEndings, mem_allEntries, if_true]
  · simp only [State.resetEndings, State.claimAfter_congr hreached]
  · simp only [State.resetEndings, State.portAfterEnd_congr (hreachedOf _)]

theorem State.raiseGlobal_concluded (u : State) (status w0 w1 w2 w3 : Word) :
    (u.concluded status w0 w1 w2 w3).raiseGlobal .hostLinkReset =
      State.concluded { u with globalFlags := u.globalFlags ||| 4 } status w0 w1 w2 w3 := by
  have hflags : u.globalFlags ||| 1 ||| 4 = u.globalFlags ||| 4 ||| 1 := by
    rw [BitVec.or_assoc, BitVec.or_assoc, BitVec.or_comm 1]
  exact congrArg (fun g => State.driveAttn
    { u with result := ⟨status, w0, w1, w2, w3⟩, slotState := .done, globalFlags := g }) hflags

theorem State.afterHostReset_eq (hs : Accounted s) (hshape : ∀ k e, s.entry k = some e → EntryShape e) :
    s.dropped.hostResetEntries.raiseGlobal .hostLinkReset = s.afterHostReset := by
  have hwalk := State.hostResetEntries_eq (s := s.dropped) (hs.congr rfl rfl) hshape
  rw [State.resetEndings_all] at hwalk
  have hraise (u : State) : u.raiseGlobal .hostLinkReset = u.driveAttn.raiseGlobal .hostLinkReset := rfl
  rw [hraise, hwalk, ← hraise, State.writeAll]
  have hreport : s.dropped.driveAttn.drainReport freedAtHostReset = s.drainReport freedAtHostReset := rfl
  rw [hreport]
  unfold State.afterHostReset
  cases s.drainReport freedAtHostReset with
  | none => rfl
  | some n => exact State.raiseGlobal_concluded _ _ _ _ _ _

end Sys2Proof.Machine
end

section
/-! PROOFS. O9: a host link reset under the laws, where no claim settles (R64, R65, R184). -/

namespace Sys2Proof.Machine

open Sys2Proof

variable {s : State}

theorem accounted_of_laws (hbound : BoundLaw s) (hentry : EntryLaw s) : Accounted s := by
  obtain ⟨hflight, hbinding, -⟩ := hbound
  obtain ⟨-, hshape, -⟩ := hentry
  refine ⟨hflight, hbinding, fun k e he => ?_⟩
  obtain ⟨-, -, -, -, hstatus⟩ := hshape k e he
  exact hstatus

theorem execHostLinkReset_accounted (hup : s.hostLink = .up) (hbound : BoundLaw s) (hentry : EntryLaw s) :
    execHostLinkReset s = .next s.afterHostReset := by
  have hacc := accounted_of_laws hbound hentry
  obtain ⟨-, hshape, -⟩ := hentry
  rw [execHostLinkReset_up hup, State.afterHostReset_eq hacc hshape]

/-! ### Where no claim settles -/

/-- The state after a host link reset that leaves no claim in motion with nothing in flight (R64, R65). -/
def State.hostResetAtRest (s : State) : State :=
  State.driveAttn
    { s with
      hostLink := .reset
      waiting := []
      entries := Vector.ofFn fun k => entryAfterHostReset (s.entry k)
      claims := Vector.ofFn fun n => (s.claim n).map fun c => { c with inFlight := c.inFlight - s.endedAt freedAtHostReset n }
      ports := s.ports.map fun x => { x with issueList := x.issueList.filter fun k => (s.reached freedAtHostReset k).isNone }
      globalFlags := s.globalFlags ||| 4 }

/-- A slot that settles is settled by the entries of its own port. -/
theorem Accounted.settling_ofPort (hs : Accounted s) {R : EntryNo → Entry → Bool} (hnone : ∀ n, s.settling R n = none) (p : Port)
    (n : SlotNo) : s.settling (fun k e => R k e && e.port == p) n = none := by
  refine Option.eq_none_iff_forall_not_mem.mpr fun c hc => ?_
  obtain ⟨hclaim, hsettles⟩ := Option.filter_eq_some_iff.mp hc
  obtain ⟨⟨hmotion, hpos⟩, hall⟩ : (c.phase.inMotion = true ∧ 0 < s.endedAt (fun k e => R k e && e.port == p) n) ∧
      c.inFlight = s.endedAt (fun k e => R k e && e.port == p) n := by
    simpa using hsettles
  obtain ⟨k, -, hk⟩ := List.countP_pos_iff.mp hpos
  obtain ⟨e, he, hslot⟩ := (Option.any_eq_true _ _).mp hk
  rw [State.reached_ofPort] at he
  obtain ⟨hreached, hport⟩ := Option.filter_eq_some_iff.mp he
  obtain ⟨d, hd, hown⟩ := hs.claim_of_entry (State.entry_of_reached hreached)
  rw [eq_of_beq hslot] at hd
  obtain rfl := Option.some.inj (hclaim.symm.trans hd)
  rw [eq_of_beq hport] at hown
  rw [hs.endedAt_ofPort hclaim hown R] at hpos hall
  have hsome : s.settling R n = some c := by simp [State.settling, hclaim, Option.filter_some, hmotion, hpos, hall]
  exact Option.some_ne_none c (hsome.symm.trans (hnone n))

/-- What a freed entry takes from its port: its place in the issue list, and nothing else. -/
theorem State.portAfterEnd_freed (hbound : BoundLaw s) (hentry : EntryLaw s) (hnone : ∀ n, s.settling freedAtHostReset n = none)
    (p : Port) :
    s.portAfterEnd p (freedAtHostResetOf p) .ok =
      { s.port p with issueList := (s.port p).issueList.filter fun k => (s.reached freedAtHostReset k).isNone } := by
  have hacc := accounted_of_laws hbound hentry
  obtain ⟨-, hshape, hlists⟩ := hentry
  have hsettling : s.settling (freedAtHostResetOf p) = fun _ => none := funext (hacc.settling_ofPort hnone p)
  have hfreed {k : EntryNo} {e : Entry} (he : s.reached (freedAtHostResetOf p) k = some e) :
      s.entry k = some e ∧ e.owes.isSome = true ∧ e.issued = 0 := by
    obtain ⟨hplace, hreach⟩ := Option.filter_eq_some_iff.mp he
    have hreach : (e.owes.isSome = true ∧ e.issued = 0) ∧ e.port = p := by
      simpa [freedAtHostResetOf, freedAtHostReset] using hreach
    exact ⟨hplace, hreach.1⟩
  have hheld : (fun t => allEntries.any fun k => (s.reached (freedAtHostResetOf p) k).any fun e => e.pieces.contains (.outstanding t)) =
      fun _ : PieceTag => false := by
    funext t
    refine List.any_eq_false.mpr fun k _ hk => ?_
    obtain ⟨e, he, hmem⟩ := (Option.any_eq_true _ _).mp hk
    obtain ⟨hplace, -, hissued⟩ := hfreed he
    exact (hshape k e hplace).not_outstanding hissued t (by simpa using hmem)
  have hlost : (allEntries.any fun k => (s.reached (freedAtHostResetOf p) k).any fun e => e.losesPosted .ok) = false := by
    refine List.any_eq_false.mpr fun k _ hk => ?_
    obtain ⟨e, he, hloses⟩ := (Option.any_eq_true _ _).mp hk
    obtain ⟨-, howes, -⟩ := hfreed he
    obtain ⟨tag, htag⟩ := Option.isSome_iff_exists.mp howes
    simp [Entry.losesPosted, htag] at hloses
  have hmarks : s.marksRaised (freedAtHostResetOf p) .ok = 0 := by simp [State.marksRaised, hsettling, hlost]
  have hboards : s.boardsFreed (freedAtHostResetOf p) = 0 := by simp [State.boardsFreed, hsettling]
  have hmessages : s.settlingMessages (freedAtHostResetOf p) = [] := by simp [State.settlingMessages, hsettling]
  have hlist : ((s.port p).issueList.filter fun k => !(s.reached (freedAtHostResetOf p) k).isSome) =
      (s.port p).issueList.filter fun k => (s.reached freedAtHostReset k).isNone := by
    refine List.filter_congr fun k hk => ?_
    obtain ⟨e, he, hport, -⟩ := hlists p k hk
    simp [freedAtHostResetOf, State.reached, he, Option.filter_some, hport]
  rw [State.portAfterEnd_eq, hmessages, PortRecord.taking_nil, hheld, hboards, hmarks, PortRecord.freeing, hlist]
  simp

theorem State.afterHostReset_atRest (hbound : BoundLaw s) (hentry : EntryLaw s) (hnone : ∀ n, s.settling freedAtHostReset n = none) :
    s.afterHostReset = s.hostResetAtRest := by
  have hreport : s.drainReport freedAtHostReset = none := by simp [State.drainReport_eq, hnone]
  have hclaims : s.claimAfter freedAtHostReset =
      fun n => (s.claim n).map fun c => { c with inFlight := c.inFlight - s.endedAt freedAtHostReset n } := by
    funext n
    simp only [State.claimAfter, hnone]
  have hports : (Vector.ofFn fun p => s.portAfterEnd p (freedAtHostResetOf p) .ok) =
      s.ports.map fun x => { x with issueList := x.issueList.filter fun k => (s.reached freedAtHostReset k).isNone } := by
    refine Vector.ext fun i hi => ?_
    rw [Vector.getElem_ofFn, Vector.getElem_map, State.portAfterEnd_freed hbound hentry hnone]
    rfl
  simp only [State.afterHostReset, hreport, hclaims, hports]
  rfl

/-! ### What the window reads (R184) -/

theorem registerAt_ne_globalFlags {offset : Nat} (h : offset ≠ 0x100) : registerAt offset ≠ .globalFlags := by
  unfold registerAt
  split
  case h_15 => exact absurd rfl h
  case h_26 => split_ifs <;> simp
  all_goals simp

theorem State.readRegister_hostResetAtRest (s : State) {r : Register} (hr : r ≠ .globalFlags) :
    s.hostResetAtRest.readRegister r = s.readRegister r := by
  have hport (p : Port) : s.hostResetAtRest.port p =
      { s.port p with issueList := (s.port p).issueList.filter fun k => (s.reached freedAtHostReset k).isNone } :=
    Vector.getElem_map ..
  cases r with
  | globalFlags => exact absurd rfl hr
  | portFlags p => simp only [State.readRegister, hport]
  | portStatus p i =>
    simp only [State.readRegister, hport]
    cases i using Fin.cases <;> rfl
  | noticeResponder => simp only [State.readRegister, State.noticeWord, hport]
  | _ => rfl

/-- Where what is QUEUED and owes an answer is bound to claims at rest, the reset settles none of them. -/
theorem PurgedLaw.settling_freed (h : PurgedLaw s) (n : SlotNo) : s.settling freedAtHostReset n = none := by
  refine Option.eq_none_iff_forall_not_mem.mpr fun c hc => ?_
  obtain ⟨hclaim, hsettles⟩ := Option.filter_eq_some_iff.mp hc
  obtain ⟨⟨hmotion, hpos⟩, -⟩ : (c.phase.inMotion = true ∧ 0 < s.endedAt freedAtHostReset n) ∧
      c.inFlight = s.endedAt freedAtHostReset n := by
    simpa using hsettles
  obtain ⟨k, -, hk⟩ := List.countP_pos_iff.mp hpos
  obtain ⟨e, he, hslot⟩ := (Option.any_eq_true _ _).mp hk
  obtain ⟨hplace, hreach⟩ := Option.filter_eq_some_iff.mp he
  obtain ⟨howes, hissued⟩ : e.owes.isSome = true ∧ e.issued = 0 := by simpa [freedAtHostReset] using hreach
  have hrest := h k e hplace hissued (Option.isSome_iff_ne_none.mp howes) c (by rw [eq_of_beq hslot, hclaim])
  exact Bool.false_ne_true (hrest.symm.trans hmotion)

/-- Settles O9. The answers, the entries and the flags are read off the walk in every state; under the laws the walk ends in
`State.afterHostReset`, which with no claim settling is `State.hostResetAtRest`. -/
theorem hostLinkResetReleasesAnswers : Obligations.HostLinkResetReleasesAnswers := by
  intro s
  refine ⟨execHostLinkReset_idle, fun hup => ⟨_, execHostLinkReset_up hup, ?_⟩, execHostLinkReset_accounted, ?_, ?_⟩
  · have hquiet := (Quiet.hostResetEntries s.dropped).trans (Quiet.raiseGlobal _ .hostLinkReset)
    have hentries (k : EntryNo) : (s.dropped.hostResetEntries.raiseGlobal .hostLinkReset).entry k = entryAfterHostReset (s.entry k) := by
      have hraise (u : State) : (u.raiseGlobal .hostLinkReset).entry k = u.entry k := rfl
      rw [hraise, State.entry_hostResetEntries]
      rfl
    exact ⟨hquiet.hostLink, hquiet.completions, globalFlag_raiseGlobal .., hentries,
      fun k e he => owes_entryAfterHostReset ((hentries k).symm.trans he), hquiet.global, hquiet.port⟩
  · intro hup hbound hentry hnone
    have hreset := execHostLinkReset_accounted hup hbound hentry
    rw [State.afterHostReset_atRest hbound hentry hnone] at hreset
    exact hreset
  · intro hup hbound hentry hpurged
    have hnone := PurgedLaw.settling_freed hpurged
    refine ⟨hnone, s.hostResetAtRest, ?_, fun offset hoffset => ?_⟩
    · have hreset := execHostLinkReset_accounted hup hbound hentry
      rw [State.afterHostReset_atRest hbound hentry hnone] at hreset
      exact hreset
    · exact s.readRegister_hostResetAtRest (registerAt_ne_globalFlags hoffset)

end Sys2Proof.Machine
end

section
/-! PROOFS. What happens on one port is confined to it: the relation between the states before and after, and that every operation of a
port's controller, of its entries and of its claims is in it. -/

namespace Sys2Proof.Machine

open Sys2Proof

variable {s t u : State} {p : Port} {n : SlotNo} {k : EntryNo} {c : Claim} {e : Entry}

/-! ### The relation -/

/-- The slot is FREE or holds a claim of the port. -/
def OnPort (p : Port) (s : State) (n : SlotNo) : Prop :=
  ∀ c, s.claim n = some c → c.port = some p

/-- Every entry is bound to a claim of its own port; an entry of `p` may stand beside a FREE slot, as it does within a happening. -/
def Sited (p : Port) (s : State) : Prop :=
  ∀ k e, s.entry k = some e → (s.claim e.slot).bind Claim.port = some e.port ∨ (e.port = p ∧ s.claim e.slot = none)

/-- The parts that a happening on a port may write are those of `t`; every other part is that of `s`. -/
def State.varying (s t : State) : State :=
  { s with
    completions := t.completions, claims := t.claims, entries := t.entries, ports := t.ports, slotState := t.slotState
    result := t.result, globalFlags := t.globalFlags, attn := t.attn }

/-- From `s` to `t` only the record of port `p`, claims of `p` and FREE slots, and entries of `p` have changed, and the parts of no
port that `State.varying` names. -/
structure Isolated (p : Port) (s t : State) : Prop where
  ports : ∀ q, q ≠ p → t.port q = s.port q
  claims : ∀ n, t.claim n = s.claim n ∨ (OnPort p s n ∧ OnPort p t n)
  entries : ∀ k, t.entry k = s.entry k ∨
    ∃ d, s.entry k = some d ∧ d.port = p ∧ ∀ e, t.entry k = some e → e.slot = d.slot ∧ e.port = p
  rest : t = s.varying t

namespace Isolated

theorem refl (p : Port) (s : State) : Isolated p s s :=
  ⟨fun _ _ => rfl, fun _ => .inl rfl, fun _ => .inl rfl, rfl⟩

theorem onPort (h : Isolated p s t) (hn : OnPort p s n) : OnPort p t n := by
  rcases h.claims n with heq | ⟨-, ht⟩
  · exact fun c hc => hn c (heq.symm.trans hc)
  · exact ht

theorem onPort_before (h : Isolated p s t) (hn : OnPort p t n) : OnPort p s n := by
  rcases h.claims n with heq | ⟨hs, -⟩
  · exact fun c hc => hn c (heq.trans hc)
  · exact hs

theorem trans (h : Isolated p s t) (h' : Isolated p t u) : Isolated p s u := by
  refine ⟨fun q hq => (h'.ports q hq).trans (h.ports q hq), fun n => ?_, fun k => ?_, h'.rest.trans ?_⟩
  · rcases h'.claims n with heq' | ⟨ht, hu⟩
    · exact (h.claims n).imp heq'.trans fun ⟨hs, ht⟩ => ⟨hs, fun c hc => ht c (heq'.symm.trans hc)⟩
    · exact .inr ⟨h.onPort_before ht, hu⟩
  · rcases h.entries k with heq | ⟨d, hd, hport, ht⟩
    · rw [← heq]
      exact h'.entries k
    · refine .inr ⟨d, hd, hport, fun e he => ?_⟩
      rcases h'.entries k with heq' | ⟨d', hd', -, hu⟩
      · exact ht e (heq'.symm.trans he)
      · obtain ⟨hslot, hp⟩ := hu e he
        exact ⟨hslot.trans (ht d' hd').1, hp⟩
  · have hpast := congrArg (fun v : State => v.varying u) h.rest
    exact hpast

theorem sited (h : Isolated p s t) (hs : Sited p s) : Sited p t := by
  intro k e he
  obtain ⟨d, hd, hslot, hport⟩ : ∃ d, s.entry k = some d ∧ e.slot = d.slot ∧ e.port = d.port := by
    rcases h.entries k with heq | ⟨d, hd, hport, ht⟩
    · exact ⟨e, heq.symm.trans he, rfl, rfl⟩
    · exact ⟨d, hd, (ht e he).1, (ht e he).2.trans hport.symm⟩
  rw [hslot, hport]
  rcases h.claims d.slot with heq | ⟨hbefore, hafter⟩
  · rw [heq]
    exact hs k d hd
  · have hp : d.port = p := by
      rcases hs k d hd with hbound | ⟨hp, -⟩
      · obtain ⟨c, hc, hown⟩ := Option.bind_eq_some_iff.mp hbound
        exact Option.some.inj (hown.symm.trans (hbefore c hc))
      · exact hp
    cases hc : t.claim d.slot with
    | none => exact .inr ⟨hp, rfl⟩
    | some c => exact .inl ((hafter c hc).trans (congrArg some hp.symm))

end Isolated

/-- Where every entry is bound to its own port, the change is confined to the port. -/
structure Confined (p : Port) (s t : State) : Prop where
  isolated : Sited p s → Isolated p s t

namespace Sited

theorem onPort (hs : Sited p s) (he : s.entry k = some e) (hport : e.port = p) : OnPort p s e.slot := by
  intro c hc
  rcases hs k e he with hbound | ⟨-, hfree⟩
  · rw [hc] at hbound
    exact hbound.trans (congrArg some hport)
  · exact absurd (hc.symm.trans hfree) (Option.some_ne_none c)

theorem port_of_slot (hs : Sited p s) (he : s.entry k = some e) (hslot : OnPort p s e.slot) : e.port = p := by
  rcases hs k e he with hbound | ⟨hport, -⟩
  · obtain ⟨c, hc, hown⟩ := Option.bind_eq_some_iff.mp hbound
    exact Option.some.inj (hown.symm.trans (hslot c hc))
  · exact hport

end Sited

theorem sited_of_bindingLaw (p : Port) (h : BindingLaw s) : Sited p s :=
  fun k e he => .inl (h k e he)

theorem Claim.port_of_isBoardOf_self {c : Claim} (h : c.isBoardOf p = true) : c.port = some p := by
  obtain ⟨handle, identity, attributes, howner⟩ := (c.isBoardOf_iff p).mp h
  simp [Claim.port, howner]

theorem onPort_of_claim (hc : s.claim n = some c) (hport : c.port = some p) : OnPort p s n := by
  intro d hd
  rwa [Option.some.inj (hd.symm.trans hc)]

/-! ### The operations on a record, a claim, an entry -/

namespace Confined

theorem refl (p : Port) (s : State) : Confined p s s :=
  ⟨fun _ => .refl p s⟩

theorem trans (h : Confined p s t) (h' : Confined p t u) : Confined p s u :=
  ⟨fun hs => (h.isolated hs).trans (h'.isolated ((h.isolated hs).sited hs))⟩

/-- A second operation that needs what the first keeps. -/
theorem trans_of (h : Confined p s t) (h' : Isolated p s t → Confined p t u) : Confined p s u :=
  ⟨fun hs => (h.isolated hs).trans ((h' (h.isolated hs)).isolated ((h.isolated hs).sited hs))⟩

/-- An operation that needs every entry bound to its own port. -/
theorem of_sited (h : Sited p s → Confined p s t) : Confined p s t :=
  ⟨fun hs => (h hs).isolated hs⟩

/-- A change to parts that `State.varying` names and no port, claim or entry is part of. -/
theorem of_rest (hports : t.ports = s.ports) (hclaims : t.claims = s.claims) (hentries : t.entries = s.entries)
    (hrest : t = s.varying t) : Confined p s t :=
  ⟨fun _ => ⟨fun _ _ => by simp only [State.port, hports], fun _ => .inl (by simp only [State.claim, hclaims]),
    fun _ => .inl (by simp only [State.entry, hentries]), hrest⟩⟩

theorem setPort (s : State) (p : Port) (x : PortRecord) : Confined p s (s.setPort p x) :=
  ⟨fun _ => ⟨fun _ hq => State.port_setPort_ne s x hq, fun _ => .inl rfl, fun _ => .inl rfl, rfl⟩⟩

theorem modifyPort (s : State) (p : Port) (f : PortRecord → PortRecord) : Confined p s (s.modifyPort p f) :=
  setPort s p _

theorem setClaim (hn : OnPort p s n) {o : Option Claim} (ho : ∀ c, o = some c → c.port = some p) : Confined p s (s.setClaim n o) := by
  refine ⟨fun _ => ⟨fun _ _ => rfl, fun m => ?_, fun _ => .inl rfl, rfl⟩⟩
  by_cases hm : m = n
  · subst hm
    refine .inr ⟨hn, fun c hc => ho c ?_⟩
    rwa [State.claim_setClaim_self] at hc
  · exact .inl (State.claim_setClaim_ne s o hm)

theorem setEntry (he : s.entry k = some e) (hport : e.port = p) {o : Option Entry}
    (ho : ∀ d, o = some d → d.slot = e.slot ∧ d.port = e.port) : Confined p s (s.setEntry k o) := by
  refine ⟨fun _ => ⟨fun _ _ => rfl, fun _ => .inl rfl, fun j => ?_, rfl⟩⟩
  by_cases hj : j = k
  · subst hj
    refine .inr ⟨e, he, hport, fun d hd => ?_⟩
    rw [State.entry_setEntry_self] at hd
    exact ⟨(ho d hd).1, (ho d hd).2.trans hport⟩
  · exact .inl (State.entry_setEntry_ne s o hj)

theorem driveAttn (p : Port) (s : State) : Confined p s s.driveAttn :=
  of_rest rfl rfl rfl rfl

theorem handOver (p : Port) (s : State) (a : Completion) : Confined p s (s.handOver a) :=
  of_rest rfl rfl rfl rfl

theorem raisePort (s : State) (p : Port) (f : PortFlag) : Confined p s (s.raisePort p f) :=
  (modifyPort s p _).trans (driveAttn p _)

theorem reportEnd (p : Port) (s : State) (a : HostCommand) (m : Nat) (r : CommandResult) (w : Nat) :
    Confined p s (s.reportEnd a m r w) := by
  unfold State.reportEnd
  split
  · exact of_rest rfl rfl rfl rfl
  · exact .refl p s

theorem restartIdle (s : State) (p : Port) : Confined p s (s.restartIdle p) :=
  modifyPort s p _

theorem transmit (s : State) (p : Port) (m : OutMessage) : Confined p s (s.transmit p m) :=
  (modifyPort s p _).trans (restartIdle _ p)

theorem owe (s : State) (p : Port) (m : OwedMessage) : Confined p s (s.owe p m) := by
  rw [State.owe_eq]
  exact setPort s p _

theorem countOut (s : State) (p : Port) : Confined p s (s.countOut p) :=
  (modifyPort s p _).trans (raisePort _ p _)

/-- A walk over places or slots. -/
theorem foldl {α : Type} {f : State → α → State} (I : State → Prop) (hI : ∀ s t, Isolated p s t → I s → I t)
    (hf : ∀ s x, I s → Confined p s (f s x)) (l : List α) (hs : I s) : Confined p s (l.foldl f s) := by
  induction l generalizing s with
  | nil => exact .refl p s
  | cons x l ih =>
    exact (hf s x hs).trans_of fun hstep => ih (hI s _ hstep hs)

/-! ### The settling of a claim of the port (R5, R9, R11) -/

theorem commitReshape (hn : OnPort p s n) (hport : c.port = some p) (b z : Nat) : Confined p s (s.commitReshape n c b z) := by
  have hset : Confined p s (s.setClaim n (some { c with base := b, size := z, phase := .live })) :=
    setClaim hn fun d hd => Option.some.inj hd ▸ hport
  unfold State.commitReshape
  split
  next q h y a howner =>
    obtain rfl : q = p := by simpa [Claim.port, howner] using hport
    exact (hset.trans (owe ..)).trans (raisePort ..)
  all_goals exact hset

theorem completeDrain (hn : OnPort p s n) (hport : c.port = some p) (cause : RetireCause) : Confined p s (s.completeDrain n c cause) := by
  have hfree : Confined p s (s.setClaim n none) := setClaim hn fun d hd => absurd hd.symm (Option.some_ne_none d)
  unfold State.completeDrain
  cases howner : c.owner with
  | board q h y a =>
    obtain rfl : q = p := by simpa [Claim.port, howner] using hport
    cases cause with
    | release => exact (hfree.trans (owe ..)).trans (countOut ..)
    | revoke => exact ((hfree.trans (owe ..)).trans (reportEnd ..)).trans (countOut ..)
    | hostRetire => exact (hfree.trans (reportEnd ..)).trans (countOut ..)
  | fixed | fence | route =>
    cases cause with
    | release => exact hfree
    | revoke | hostRetire => exact hfree.trans (reportEnd ..)

theorem settle (hn : OnPort p s n) : Confined p s (s.settle n) := by
  unfold State.settle
  split
  · exact .refl p s
  next c hc =>
    split
    · split
      · exact commitReshape hn (hn c hc) _ _
      · exact completeDrain hn (hn c hc) _
      all_goals exact .refl p s
    · exact .refl p s

theorem decrement (hn : OnPort p s n) : Confined p s (s.decrement n) := by
  unfold State.decrement
  split
  · exact .refl p s
  next c hc =>
    have hport := hn c hc
    have hlowered : Confined p s (s.setClaim n (some { c with inFlight := c.inFlight - 1 })) :=
      setClaim hn fun d hd => Option.some.inj hd ▸ hport
    exact hlowered.trans (settle (onPort_of_claim (State.claim_setClaim_self s n _) hport))

/-! ### The end of entries of the port (R77, R79) -/

theorem freeEntry {d : Entry} (he : s.entry k = some e) (hport : e.port = p) (hd : d.port = e.port ∧ d.slot = e.slot) :
    Confined p s (s.freeEntry k d) := by
  obtain ⟨hdport, hdslot⟩ := hd
  have hdp : d.port = p := hdport.trans hport
  unfold State.freeEntry
  rw [hdslot, hdp]
  have hleft : Confined p s ((s.modifyPort p fun x => { x with issueList := x.issueList.filter (· != k) }).setEntry k none) :=
    (modifyPort s p _).trans (setEntry (e := e) (by exact he) hport fun d hd => absurd hd.symm (Option.some_ne_none d))
  exact of_sited fun hs => hleft.trans_of fun hi => decrement (hi.onPort (hs.onPort he hport))

theorem finishEntry {d : Entry} (he : s.entry k = some e) (hport : e.port = p) (hd : d.port = e.port ∧ d.slot = e.slot) :
    Confined p s (s.finishEntry k d) := by
  obtain ⟨hdport, hdslot⟩ := hd
  unfold State.finishEntry
  split
  · exact (handOver p s _).trans (freeEntry (e := e) (by exact he) hport ⟨hdport, hdslot⟩)
  · split
    · rw [hdport.trans hport]
      exact (raisePort s p _).trans (freeEntry (e := e) (by exact he) hport ⟨hdport, hdslot⟩)
    · exact freeEntry he hport ⟨hdport, hdslot⟩

theorem endEntry (he : s.entry k = some e) (hport : e.port = p) (st : Status) : Confined p s (s.endEntry k e st) := by
  unfold State.endEntry
  rw [hport]
  exact (modifyPort s p _).trans (finishEntry (e := e) (by exact he) hport ⟨e.port_endAll st, e.slot_endAll st⟩)

/-- An event of the port, or of a claim of the port. -/
theorem endEntries {reaches : Entry → Bool} (hreaches : ∀ e, reaches e = true → e.port = p ∨ OnPort p s e.slot) (st : Status) :
    Confined p s (s.endEntries reaches st) := by
  refine foldl (fun u => ∀ e, reaches e = true → e.port = p ∨ OnPort p u e.slot)
    (fun _ _ h hs e he => (hs e he).imp_right h.onPort) (fun u j hu => ?_) allEntries hreaches
  split
  next e he =>
    split
    next hreach =>
      exact of_sited fun hs => endEntry he ((hu e hreach).elim id (hs.port_of_slot he)) st
    next => exact .refl p u
  next => exact .refl p u

theorem endEntries_port {reaches : Entry → Bool} (hreaches : ∀ e, reaches e = true → e.port = p) (st : Status) :
    Confined p s (s.endEntries reaches st) :=
  endEntries (fun e he => .inl (hreaches e he)) st

theorem purge (hn : OnPort p s n) (st : Status) : Confined p s (s.purge n st) := by
  refine endEntries (fun e he => .inr ?_) st
  have hslot : (e.slot = n ∧ e.issued = 0) ∧ e.owes.isSome = true := by simpa using he
  rwa [hslot.1.1]

theorem freeTags (s : State) (p : Port) : Confined p s (s.freeTags p) :=
  modifyPort s p _

theorem retrainEntries (s : State) (p : Port) : Confined p s (s.retrainEntries p) := by
  have hended : Confined p s (s.endEntries (fun e => e.port == p && e.issued != 0) .retrained) :=
    endEntries_port (fun _ he => eq_of_beq (Bool.and_eq_true_iff.mp he).1) .retrained
  exact hended.trans (freeTags _ p)

theorem dropEntries (s : State) (p : Port) : Confined p s (s.dropEntries p) := by
  have hended : Confined p s (s.endEntries (fun e => e.port == p) .linkDown) :=
    endEntries_port (fun _ he => eq_of_beq he) .linkDown
  exact (hended.trans (freeTags _ p)).trans (modifyPort _ p _)

/-! ### Claims of the port that move or go (R7, R8, R10, R12) -/

/-- A claim of the port takes a phase, its slot is purged, and it settles where nothing is left in flight. -/
theorem moving {d : Claim} (hc : s.claim n = some c) (hport : c.port = some p) (hd : d.owner = c.owner) (st : Status) :
    Confined p s (((s.setClaim n (some d)).purge n st).settle n) := by
  have hdport : d.port = some p := by rw [← hport, Claim.port, Claim.port, hd]
  have hset : Confined p s (s.setClaim n (some d)) :=
    setClaim (onPort_of_claim hc hport) fun a ha => Option.some.inj ha ▸ hdport
  have hon : OnPort p (s.setClaim n (some d)) n := onPort_of_claim (State.claim_setClaim_self s n _) hdport
  exact hset.trans ((purge hon st).trans_of fun hi => settle (hi.onPort hon))

theorem retireNow (hn : OnPort p s n) : Confined p s (s.retireNow n p) :=
  (setClaim hn fun d hd => absurd hd.symm (Option.some_ne_none d)).trans (countOut _ p)

theorem retireWhere (s : State) {picks : Claim → Bool} (hpicks : ∀ c, picks c = true → c.isBoardOf p = true) :
    Confined p s (s.retireWhere p picks) := by
  refine foldl (fun _ => True) (fun _ _ _ _ => trivial) (fun u m _ => ?_) allSlots trivial
  split
  next c hc =>
    split
    next hpick => exact retireNow (onPort_of_claim hc (Claim.port_of_isBoardOf_self (hpicks c hpick)))
    next => exact .refl p u
  next => exact .refl p u

theorem retireOrphans (s : State) (p : Port) : Confined p s (s.retireWhere p fun c => c.isOrphanOf p) :=
  retireWhere s fun c hc => ((c.isOrphanOf_iff p).mp hc).1

/-- A claim of another port is written back as it was. -/
theorem orphanClaims (s : State) (p : Port) : Confined p s (s.orphanClaims p) := by
  refine foldl (fun _ => True) (fun _ _ _ _ => trivial) (fun u m _ => ?_) allSlots trivial
  split
  next c hc =>
    by_cases hboard : c.isBoardOf p = true
    · have hport := Claim.port_of_isBoardOf_self hboard
      refine setClaim (onPort_of_claim hc hport) fun d hd => ?_
      rw [← Option.some.inj hd]
      exact Claim.port_of_isBoardOf_self ((c.isBoardOf_orphaned p p).trans hboard)
    · have hsame : c.orphaned p = c := by rw [Claim.orphaned, if_neg hboard]
      have hback : u.setClaim m (some c) = u := by
        simp only [State.setClaim, ← hc, State.claim]
        simp
      rw [hsame, hback]
      exact .refl p u
  next => exact .refl p u

theorem resumeClaims (s : State) (slots : List SlotNo) (hslots : ∀ n ∈ slots, OnPort p s n) : Confined p s (s.resumeClaims slots) := by
  unfold State.resumeClaims
  induction slots generalizing s with
  | nil => exact .refl p s
  | cons n slots ih =>
    have hstep : Confined p s
        (match s.claim n with
        | some c => s.setClaim n (some { c with phase := .live })
        | none => s) := by
      split
      next c hc =>
        have hn := hslots n List.mem_cons_self
        exact setClaim hn fun d hd => Option.some.inj hd ▸ hn c hc
      next => exact .refl p s
    exact hstep.trans_of fun hi => ih _ fun m hm => hi.onPort (hslots m (List.mem_cons_of_mem n hm))

theorem admitBoard (hfree : s.claim n = none) (h : Handle) (y : Word) (a : Attributes) (sp : Space) (b z : Nat) :
    Confined p s (s.admitBoard n p h y a sp b z) := by
  have hset : Confined p s (s.setClaim n (some (newClaim (.board p h y a) sp b z))) :=
    setClaim (fun c hc => absurd (hc.symm.trans hfree) (Option.some_ne_none c)) fun d hd => Option.some.inj hd ▸ rfl
  exact ((hset.trans (modifyPort _ p _)).trans (owe ..)).trans (raisePort ..)

end Confined

end Sys2Proof.Machine
end

section
/-! PROOFS. O60: every command that a port's link, timers or partner raise is confined to the port. -/

namespace Sys2Proof.Machine

open Sys2Proof

variable {s t u : State} {p : Port} {n : SlotNo} {k : EntryNo} {c : Claim} {e : Entry}

namespace Confined

/-! ### REALIGN, link loss and greeting (chapters 5 and 7) -/

theorem sendAlign (s : State) (p : Port) : Confined p s (s.sendAlign p) :=
  (modifyPort s p _).trans (modifyPort _ p _)

theorem endPowerCommand (s : State) (p : Port) (x : PortRecord) : Confined p s (s.endPowerCommand p x) := by
  unfold State.endPowerCommand
  split
  · exact reportEnd ..
  · split
    · exact reportEnd ..
    · exact .refl p s

theorem enterRealign (s : State) (p : Port) : Confined p s (s.enterRealign p) :=
  ((((modifyPort s p _).trans (endPowerCommand _ p _)).trans (retrainEntries _ p)).trans (modifyPort _ p _)).trans (sendAlign _ p)

theorem endLinkCommands (s : State) (p : Port) : Confined p s (s.endLinkCommands p) :=
  ((reportEnd p s _ _ _ _).trans (reportEnd p _ _ _ _ _)).trans (reportEnd p _ _ _ _ _)

theorem holdOrphans (s : State) (p : Port) : Confined p s (s.holdOrphans p) := by
  unfold State.holdOrphans
  split
  · exact .refl p s
  · split
    · exact (retireOrphans s p).trans (raisePort ..)
    · exact (modifyPort s p _).trans (raisePort ..)

theorem linkLoss (s : State) (p : Port) : Confined p s (s.linkLoss p) :=
  (((((modifyPort s p _).trans (orphanClaims _ p)).trans (dropEntries _ p)).trans (holdOrphans _ p)).trans (raisePort _ p _)).trans
    (endLinkCommands _ p)

theorem attemptFailure (s : State) (p : Port) : Confined p s (s.attemptFailure p) := by
  have hcounted := modifyPort s p fun x => { x with realignAttempts := (s.port p).realignAttempts + 1 }
  unfold State.attemptFailure
  dsimp only
  split
  · exact hcounted.trans (linkLoss _ p)
  · exact hcounted.trans (sendAlign _ p)

theorem badCheck (s : State) (p : Port) : Confined p s (s.badCheck p) := by
  unfold State.badCheck
  cases (s.port p).state with
  | run | doze | sleep | waking => exact enterRealign s p
  | realign => exact attemptFailure s p
  | greet | off | listen | resetting | fault => exact .refl p s

theorem enterRun (s : State) (p : Port) : Confined p s (s.enterRun p) :=
  (modifyPort s p _).trans (restartIdle _ p)

theorem protocolError (s : State) (p : Port) : Confined p s (s.protocolError p) :=
  raisePort s p _

theorem greetFailure (s : State) (p : Port) : Confined p s (s.greetFailure p) := by
  unfold State.greetFailure
  dsimp only
  split
  · exact modifyPort s p _
  · exact (modifyPort s p _).trans (raisePort _ p _)

theorem losePartner (s : State) (p : Port) : Confined p s (s.losePartner p) := by
  unfold State.losePartner
  cases (s.port p).state with
  | greet => exact modifyPort s p _
  | run | realign | doze | sleep | waking => exact linkLoss s p
  | off | listen | resetting | fault => exact .refl p s

/-- A message with a right check value (R95, R96). -/
theorem receive (s : State) (p : Port) (seq : Byte) {act : State → State} (hact : ∀ u, Confined p u (act u)) :
    Confined p s (s.receive p seq act) := by
  have hheard : Confined p s ((s.modifyPort p fun x => { x with recvSeq := x.recvSeq + 1 }).restartIdle p) :=
    (modifyPort s p _).trans (restartIdle _ p)
  unfold State.receive
  cases (s.port p).state with
  | off | listen | resetting | fault => exact .refl p s
  | greet | realign => exact hact s
  | run | doze | sleep | waking =>
    dsimp only
    split
    · exact hheard.trans (hact _)
    · exact badCheck s p

/-! ### HELLO (R99, R142 to R144) -/

theorem onPort_orphan (h : n ∈ s.orphans p) : OnPort p s n := by
  intro c hc
  have horphan : c.isOrphanOf p = true := by simpa [hc] using (List.mem_filter.mp h).2
  exact Claim.port_of_isBoardOf_self ((c.isOrphanOf_iff p).mp horphan).1

theorem resolveOrphans (s : State) (p : Port) (y : Word) : Confined p s (s.resolveOrphans p y) := by
  unfold State.resolveOrphans
  split
  · exact modifyPort s p _
  · split
    · exact ((resumeClaims s _ fun _ hn => onPort_orphan hn).trans (modifyPort _ p _)).trans (raisePort _ p _)
    · exact ((retireOrphans s p).trans (raisePort _ p _)).trans (modifyPort _ p _)

theorem replayGrant (s : State) (p : Port) (resumed : List SlotNo) (h : Handle) : Confined p s (State.replayGrant p resumed s h) := by
  unfold State.replayGrant
  split
  · exact .refl p s
  · split
    · exact owe s p _
    · exact .refl p s

theorem acceptHello (s : State) (p : Port) (seq : Byte) (m : HelloMsg) : Confined p s (s.acceptHello p seq m) := by
  have hreplay (u : State) (resumed : List SlotNo) : Confined p u (allHandles.foldl (State.replayGrant p resumed) u) :=
    foldl (fun _ => True) (fun _ _ _ _ => trivial) (fun v h _ => replayGrant v p resumed h) allHandles trivial
  exact ((((((modifyPort s p _).trans (resolveOrphans _ p m.identity)).trans (transmit _ p _)).trans (modifyPort _ p _)).trans
    (enterRun _ p)).trans (hreplay _ _)).trans (raisePort _ p .linkUp)

theorem takeHello (s : State) (p : Port) (seq : Byte) (m : HelloMsg) : Confined p s (s.takeHello p seq m) := by
  unfold State.takeHello
  cases (s.port p).state with
  | greet =>
    dsimp only
    split
    · exact acceptHello s p seq m
    · exact greetFailure s p
  | run | realign | doze | sleep | waking => exact protocolError s p
  | off | listen | resetting | fault => exact .refl p s

theorem takeAlignAck (s : State) (p : Port) (seq : Byte) (y : Word) : Confined p s (s.takeAlignAck p seq y) := by
  unfold State.takeAlignAck
  cases (s.port p).state with
  | realign =>
    dsimp only
    split
    · exact ((modifyPort s p _).trans (enterRun _ p)).trans (reportEnd ..)
    · exact linkLoss s p
  | off | listen | greet | run | doze | sleep | waking | resetting | fault => exact .refl p s

/-! ### The claim messages (chapter 2) -/

theorem queueClaimMessage (s : State) (p : Port) (m : ClaimMessage) : Confined p s (s.queueClaimMessage p m) := by
  unfold State.queueClaimMessage
  split
  · exact modifyPort s p _
  · exact protocolError s p

theorem refuse (s : State) (p : Port) (h : Handle) (r : Reason) : Confined p s (s.refuse p h r) :=
  owe s p _

theorem judgeClaim (s : State) (p : Port) (m : ClaimFields) : Confined p s (s.judgeClaim p m) := by
  unfold State.judgeClaim
  split
  · exact refuse ..
  · dsimp only
    generalize (if m.any = true then none else some m.base.toNat) = base
    split_ifs
    case neg =>
      split
      · exact refuse ..
      next n hslot =>
        split
        · exact refuse ..
        · exact admitBoard (State.freeSlot_some hslot).2 ..
    all_goals exact refuse ..

theorem port_of_handle {h : Handle} (hn : s.slotOfHandle p h = some n) (hc : s.claim n = some c) : c.port = some p :=
  Claim.port_of_isBoardOf_self (Claim.isBoardOf_of_carries (State.slotOfHandle_some hn hc))

theorem startDrain (hc : s.claim n = some c) (hport : c.port = some p) (cause : RetireCause) : Confined p s (s.startDrain n c cause) := by
  unfold State.startDrain
  exact moving (d := { c with phase := .draining cause }) hc hport rfl .retired

theorem acceptReshape (hc : s.claim n = some c) (hport : c.port = some p) (b z : Nat) : Confined p s (s.acceptReshape n c b z) := by
  unfold State.acceptReshape
  exact moving (d := { c with phase := .reshaping b z }) hc hport rfl .moved

theorem judgeReshapeOf (m : ReshapeFields) (hc : s.claim n = some c) (hport : c.port = some p) :
    Confined p s (s.judgeReshapeOf p m n c) := by
  unfold State.judgeReshapeOf
  dsimp only
  generalize (if m.any = true then none else some m.base.toNat) = base
  split_ifs
  case neg =>
    split
    · exact refuse ..
    · exact acceptReshape hc hport ..
  all_goals exact refuse ..

theorem judgeReshape (s : State) (p : Port) (m : ReshapeFields) : Confined p s (s.judgeReshape p m) := by
  unfold State.judgeReshape
  split
  · exact refuse ..
  next n hn =>
    split
    · exact refuse ..
    next c hc => exact judgeReshapeOf m hc (port_of_handle hn hc)

theorem judgeRelease (s : State) (p : Port) (h : Handle) : Confined p s (s.judgeRelease p h) := by
  unfold State.judgeRelease
  split
  · exact refuse ..
  next n hn =>
    split
    · exact refuse ..
    next c hc =>
      split
      · exact refuse ..
      · exact startDrain hc (port_of_handle hn hc) .release

/-! ### Pieces and their answers (R70 to R79) -/

theorem issuePiece (he : s.entry k = some e) (hport : e.port = p) (t : PieceTag) : Confined p s (s.issuePiece p k e t) := by
  have hissued : Confined p s (s.setEntry k (some (e.issueNext t s.completionTimeout))) :=
    setEntry he hport fun d hd => Option.some.inj hd ▸ ⟨rfl, rfl⟩
  exact (hissued.trans (modifyPort _ p _)).trans (transmit _ p _)

theorem matchedComplete {m : CompleteMsg} (he : s.entry k = some e) (hport : e.port = p) : Confined p s (s.matchedComplete p k e m) := by
  obtain ⟨d, hd⟩ : ∃ d, d = e.completePiece (e.pieces.findIdx fun o => o.holds m.tag.toNat) m := ⟨_, rfl⟩
  have hframe : d.port = e.port ∧ d.slot = e.slot := by
    have hended := pieceEnded_completePiece e (e.pieces.findIdx fun o => o.holds m.tag.toNat) m
    rw [hd]
    exact ⟨hended.port, hended.slot⟩
  obtain ⟨hdport, hdslot⟩ := hframe
  have hended (v : State) (hv : v.entry k = some e) :
      Confined p v (if d.finished then v.finishEntry k d else v.setEntry k (some d)) := by
    split
    · exact finishEntry hv hport ⟨hdport, hdslot⟩
    · exact setEntry hv hport fun a ha => Option.some.inj ha ▸ ⟨hdslot, hdport⟩
  unfold State.matchedComplete
  dsimp only
  rw [← hd]
  refine Confined.trans ?_ (hended _ ?_)
  · split
    · exact (modifyPort s p _).trans (protocolError _ p)
    · exact modifyPort s p _
  · split <;> exact he

theorem takeComplete (s : State) (p : Port) (m : CompleteMsg) : Confined p s (s.takeComplete p m) := by
  unfold State.takeComplete
  split
  · exact protocolError s p
  · split
    · exact raisePort s p _
    next k hk =>
      split
      next e he => exact matchedComplete he (State.entryOfTag_some hk he).1
      next => exact raisePort s p _

/-! ### The power messages (chapter 6) -/

theorem endHandshake (s : State) (p : Port) : Confined p s (s.endHandshake p) :=
  (modifyPort s p _).trans (restartIdle _ p)

theorem wakeIfWork (s : State) (p : Port) : Confined p s (s.wakeIfWork p) := by
  unfold State.wakeIfWork
  split
  · rw [State.wakeCause_eq]
    exact setPort s p _
  · exact .refl p s

theorem takeDozeAck (s : State) (p : Port) : Confined p s (s.takeDozeAck p) := by
  unfold State.takeDozeAck
  split
  · exact (modifyPort s p _).trans (wakeIfWork _ p)
  · exact .refl p s

theorem takeDozeNak (s : State) (p : Port) : Confined p s (s.takeDozeNak p) := by
  unfold State.takeDozeNak
  split
  · exact endHandshake s p
  · exact .refl p s

theorem judgeSleepReq (s : State) (p : Port) : Confined p s (s.judgeSleepReq p) := by
  unfold State.judgeSleepReq
  split
  · exact (transmit s p _).trans (modifyPort _ p _)
  · exact transmit s p _

theorem takeSleepReq (s : State) (p : Port) : Confined p s (s.takeSleepReq p) := by
  unfold State.takeSleepReq
  cases (s.port p).state with
  | run =>
    cases (s.port p).handshake with
    | none => exact judgeSleepReq s p
    | dozeReq => exact (endHandshake s p).trans (judgeSleepReq _ p)
    | sleepReq => exact transmit s p _
  | doze => exact (transmit s p _).trans (modifyPort _ p _)
  | sleep | waking => exact transmit s p _
  | off | listen | greet | realign | resetting | fault => exact .refl p s

theorem takeSleepAck (s : State) (p : Port) : Confined p s (s.takeSleepAck p) := by
  unfold State.takeSleepAck
  split
  · exact ((modifyPort s p _).trans (reportEnd ..)).trans (wakeIfWork _ p)
  · exact .refl p s

theorem takeSleepNak (s : State) (p : Port) : Confined p s (s.takeSleepNak p) := by
  unfold State.takeSleepNak
  split
  · exact (endHandshake s p).trans (reportEnd ..)
  · exact .refl p s

theorem endWake (s : State) (p : Port) : Confined p s (s.endWake p) :=
  ((modifyPort s p _).trans (enterRun _ p)).trans (reportEnd ..)

theorem takeWake (s : State) (p : Port) : Confined p s (s.takeWake p) := by
  unfold State.takeWake
  cases (s.port p).state with
  | doze | sleep => exact (transmit s p _).trans (enterRun _ p)
  | waking => exact endWake s p
  | run => exact transmit s p _
  | off | listen | greet | realign | resetting | fault => exact .refl p s

theorem takeWakeAck (s : State) (p : Port) : Confined p s (s.takeWakeAck p) := by
  unfold State.takeWakeAck
  split
  · exact endWake s p
  · exact .refl p s

theorem wakeFailure (s : State) (p : Port) : Confined p s (s.wakeFailure p) := by
  have hended : Confined p s (s.endEntries (fun e => e.port == p) .wakeFail) :=
    endEntries_port (fun _ he => eq_of_beq he) .wakeFail
  exact (hended.trans (reportEnd ..)).trans (enterRealign _ p)

theorem takeNotice (s : State) (p : Port) (code : Byte) : Confined p s (s.takeNotice p code) := by
  unfold State.takeNotice
  cases (s.port p).state with
  | run =>
    dsimp only
    split
    · exact (modifyPort s p _).trans (raisePort _ p _)
    · exact transmit s p _
  | greet | realign | doze | sleep | waking => exact protocolError s p
  | off | listen | resetting | fault => exact .refl p s

end Confined

/-! ### Commands -/

/-- The outcome is a next state that the port alone has changed. -/
def AnswersConfined (p : Port) (s : State) (o : Host.Outcome State Fault Refusal) : Prop :=
  ∀ t, o = .next t → Confined p s t

namespace AnswersConfined

theorem next (h : Confined p s t) : AnswersConfined p s (.next t) := by
  intro u hu
  rw [← Host.Outcome.next.inj hu]
  exact h

/-- A happening that cannot be taken changes nothing (log 2). -/
theorem idle (p : Port) (s : State) : AnswersConfined p s (.next s) :=
  next (.refl p s)

theorem ite {c : Prop} [Decidable c] {o o' : Host.Outcome State Fault Refusal} (h : AnswersConfined p s o)
    (h' : AnswersConfined p s o') : AnswersConfined p s (if c then o else o') := by
  split
  · exact h
  · exact h'

/-- A happening that is taken under a condition. -/
theorem taken {c : Prop} [Decidable c] (h : Confined p s t) : AnswersConfined p s (if c then .next t else .next s) :=
  ite (next h) (idle p s)

theorem received {seq : Byte} {act : State → State} (hact : ∀ u, Confined p u (act u)) :
    AnswersConfined p s (.next (s.receive p seq act)) :=
  next (.receive s p seq hact)

theorem presenceAppears (p : Port) (s : State) : AnswersConfined p s (execPresenceAppears p s) :=
  ite (idle p s) (ite (next ((Confined.modifyPort s p _).trans (.modifyPort _ p _))) (next (.modifyPort s p _)))

theorem takeClaim (p : Port) (s : State) : AnswersConfined p s (execTakeClaim p s) := by
  unfold execTakeClaim
  split
  next m _ => exact next ((Confined.modifyPort s p _).trans (.judgeClaim _ p m))
  all_goals exact idle p s

theorem takeReshape (p : Port) (s : State) : AnswersConfined p s (execTakeReshape p s) := by
  unfold execTakeReshape
  split
  next m _ => exact next ((Confined.modifyPort s p _).trans (.judgeReshape _ p m))
  all_goals exact idle p s

theorem takeRelease (p : Port) (s : State) : AnswersConfined p s (execTakeRelease p s) := by
  unfold execTakeRelease
  split
  next h _ => exact next ((Confined.modifyPort s p _).trans (.judgeRelease _ p h))
  all_goals exact idle p s

theorem owedMessageSend (p : Port) (s : State) : AnswersConfined p s (execOwedMessageSend p s) := by
  refine ite ?_ (idle p s)
  split
  · exact idle p s
  · exact next ((Confined.modifyPort s p _).trans (.transmit _ p _))

/-- The entry at the head of the issue list is of the port (R70). -/
theorem pieceIssue (hlists : ∀ k ∈ (s.port p).issueList, ∃ e, s.entry k = some e ∧ e.port = p ∧ e.issued < e.pieces.length) :
    AnswersConfined p s (execPieceIssue p s) := by
  refine ite ?_ (idle p s)
  split
  next k l t hlist htag =>
    obtain ⟨e, he, hport, -⟩ := hlists k (by simp [hlist])
    rw [he]
    exact next (.issuePiece he hport t)
  all_goals exact idle p s

theorem complete (p : Port) (seq : Byte) (m : CompleteMsg) (s : State) : AnswersConfined p s (execComplete p seq m s) :=
  ite (next ((Confined.modifyPort s p _).trans (.raisePort _ p _))) (received fun u => .takeComplete u p m)

end AnswersConfined

/-- What a port's link, timers or partner raise is confined to the port. -/
theorem answersConfined_exec {i : Instr} (hlink : linkOf i = some p) (hentry : EntryLaw s) : AnswersConfined p s (exec i s) := by
  obtain ⟨-, -, hlists⟩ := hentry
  cases i <;> cases hlink
  case presenceAppears => exact .presenceAppears p s
  case presenceLost => exact .taken ((Confined.modifyPort s p _).trans (.losePartner _ p))
  case greetEntry => exact .taken (.modifyPort s p _)
  case hello seq m => exact .received fun u => .takeHello u p seq m
  case greetTimerExpiry => exact .taken (.greetFailure s p)
  case badCheckMessage => exact .next (.badCheck s p)
  case unknownMessage => exact .received fun u => .protocolError u p
  case alignAck seq y => exact .received fun u => .takeAlignAck u p seq y
  case attemptTimerExpiry => exact .taken (.attemptFailure s p)
  case resetSignallingTimerExpiry => exact .taken ((Confined.modifyPort s p _).trans (.reportEnd ..))
  case claim | reshape | release => exact .received fun u => .queueClaimMessage u p _
  case takeClaim => exact .takeClaim p s
  case takeReshape => exact .takeReshape p s
  case takeRelease => exact .takeRelease p s
  case owedMessageSend => exact .owedMessageSend p s
  case pieceIssue => exact .pieceIssue (hlists p)
  case complete seq m => exact .complete p seq m s
  case holdTimerExpiry =>
    exact .taken (((Confined.retireOrphans s p).trans (.raisePort _ p _)).trans (.modifyPort _ p _))
  case dozeIdleTimerExpiry =>
    exact .ite (.ite (.next ((Confined.modifyPort s p _).trans (.transmit _ p _))) (.next (.restartIdle s p))) (.idle p s)
  case handshakeAnswerTimerExpiry => exact .taken (.enterRealign s p)
  case dozeAck => exact .received fun u => .takeDozeAck u p
  case dozeNak => exact .received fun u => .takeDozeNak u p
  case sleepReq => exact .received fun u => .takeSleepReq u p
  case sleepAck => exact .received fun u => .takeSleepAck u p
  case sleepNak => exact .received fun u => .takeSleepNak u p
  case wake => exact .received fun u => .takeWake u p
  case wakeAck => exact .received fun u => .takeWakeAck u p
  case wakeExitTimerExpiry => exact .taken (.wakeFailure s p)
  case notice code => exact .received fun u => .takeNotice u p code

/-- Settles O60: the happening is confined to the port, so that it changes no claim and no entry that is not of the port. -/
theorem portsAreIsolated : Obligations.PortsAreIsolated := by
  intro i p s t hlink hbinding hentry hexec
  have hisolated := (answersConfined_exec hlink hentry t hexec).isolated (sited_of_bindingLaw p hbinding)
  refine ⟨hisolated.ports, fun n d hd hport => ?_, fun k e he hport => ?_, hisolated.rest⟩
  · rcases hisolated.claims n with heq | ⟨hon, -⟩
    · exact heq.trans hd
    · exact absurd (hon d hd) hport
  · rcases hisolated.entries k with heq | ⟨d, hd, hp, -⟩
    · exact heq.trans he
    · rw [Option.some.inj (he.symm.trans hd)] at hport
      exact absurd hp hport

end Sys2Proof.Machine
end
